-- ==== Sys2Proof/Word.lean ====
section
/-!
DEFINITION. The byte and the frame (spec 00_scope.md R9, R10).
-/
namespace Sys2Proof

/-- An unsigned 8-bit value, 0 to 255 (R9). -/
abbrev Byte := BitVec 8

/-- Nine bytes in index order (R10, R52): `b0` is the first byte on the wire. It is the source's RawFrame, a command
constant, and the frame buffer `BUF[0]` to `BUF[8]` (10_state.md R16). -/
structure Frame where
  b0 : Byte
  b1 : Byte
  b2 : Byte
  b3 : Byte
  b4 : Byte
  b5 : Byte
  b6 : Byte
  b7 : Byte
  b8 : Byte
deriving DecidableEq, Repr, Inhabited

end Sys2Proof
end

