-- ==== Sys2Proof/Syntax.lean ====
section
/-!
DEFINITION. The operation set (spec 00_scope.md R2, 30_encoding.md): the host operations, the command constants, the three
encoding formats, and the instructions, one constructor per row of spec/opcode_table.json.
-/
namespace Sys2Proof

/-- The four host operations, the legal values of `op` and of the register `OPR` (10_state.md R19, 30_encoding.md R56). -/
inductive HostOp where
  | readPpm
  | readPpmTemp
  | resetSensor
  | disableAbc
deriving DecidableEq, Repr, Inhabited

/-- The three command constants, the rows of `CMDROM` (00_scope.md R6, 10_state.md R36). -/
inductive Command where
  | read
  | reset
  | abcoff
deriving DecidableEq, Repr, Inhabited

/-- The formats of 30_encoding.md: the 3-bit operation code (R56), the command frame (R54), the response frame (R53). -/
inductive Format where
  | op3
  | cmd
  | rsp
deriving DecidableEq, Repr, Inhabited

/-- The operation set as instructions. `READ_FRAME` has no row and no encoding (30_encoding.md, introduction): it is the
`WAIT` and `SLEEP` ticks of Machine/FrameReader.lean. -/
inductive Instr where
  /-- `READ_PPM`, `op = 0` (R90). -/
  | readPpm
  /-- `READ_PPM_TEMP`, `op = 1` (R91). -/
  | readPpmTemp
  /-- `RESET_SENSOR`, `op = 2` (R92). -/
  | resetSensor
  /-- `DISABLE_ABC`, `op = 3` (R93). -/
  | disableAbc
  /-- `SEND.READ` (R63). -/
  | sendRead
  /-- `SEND.RESET` (R64). -/
  | sendReset
  /-- `SEND.ABCOFF` (R65). -/
  | sendAbcoff
  /-- `DECODE` of the frame `f` (R76): all nine bytes are its operand, whatever they are (R58 d). -/
  | decode (f : Frame)
deriving DecidableEq, Repr, Inhabited

/-- Why a sequence of bytes is no instruction of a format. -/
inductive DecodeError where
  /-- `OP3`: an operation code 4 to 7 (R58 a). Not a stop: the tick is the refused start of R87. -/
  | reservedOp
  /-- `OP3`: not one byte, or a byte that does not fit the three wires of `op`. -/
  | notAnOp
  /-- `CMD`: nine bytes that are none of the three constants (R58 e). -/
  | notACommand
  /-- `CMD` or `RSP`: not nine bytes (R52). -/
  | notNineBytes
deriving DecidableEq, Repr, Inhabited

end Sys2Proof
end

