-- ==== Sys2Proof/Decode.lean ====
section
/-!
DEFINITION. The encodings (spec 30_encoding.md): the frame as bytes and as a 72-bit word (00_scope.md R10), the constants of
`CMDROM`, the decoder (total on any bytes of any format, rejecting by name), and after it the encoder.
-/
namespace Sys2Proof

/-- The bytes of a frame in index order (R10). -/
def Frame.toBytes (f : Frame) : List Byte :=
  [f.b0, f.b1, f.b2, f.b3, f.b4, f.b5, f.b6, f.b7, f.b8]

/-- Exactly nine bytes make a frame (R52). -/
def Frame.ofBytes : List Byte → Option Frame
  | [b0, b1, b2, b3, b4, b5, b6, b7, b8] => some { b0, b1, b2, b3, b4, b5, b6, b7, b8 }
  | _ => none

/-- `W(f) = f[0] ‖ f[1] ‖ … ‖ f[8]` (R10): byte 0 in bits 71:64. -/
def Frame.toWord (f : Frame) : BitVec 72 :=
  f.b0 ++ f.b1 ++ f.b2 ++ f.b3 ++ f.b4 ++ f.b5 ++ f.b6 ++ f.b7 ++ f.b8

/-- `f[i] = W[71-8i : 64-8i]` (R10). -/
def Frame.ofWord (w : BitVec 72) : Frame where
  b0 := w.extractLsb' 64 8
  b1 := w.extractLsb' 56 8
  b2 := w.extractLsb' 48 8
  b3 := w.extractLsb' 40 8
  b4 := w.extractLsb' 32 8
  b5 := w.extractLsb' 24 8
  b6 := w.extractLsb' 16 8
  b7 := w.extractLsb' 8 8
  b8 := w.extractLsb' 0 8

/-- `CMDROM` (10_state.md R36): the three constants of 00_scope.md R6 and 30_encoding.md R54, in decimal as there. -/
def cmdRom : Command → Frame
  | .read => { b0 := 255, b1 := 1, b2 := 134, b3 := 0, b4 := 0, b5 := 0, b6 := 0, b7 := 0, b8 := 121 }
  | .reset => { b0 := 255, b1 := 1, b2 := 135, b3 := 0, b4 := 0, b5 := 0, b6 := 0, b7 := 0, b8 := 120 }
  | .abcoff => { b0 := 255, b1 := 1, b2 := 121, b3 := 0, b4 := 0, b5 := 0, b6 := 0, b7 := 0, b8 := 134 }

/-- The operation code of R56. -/
def HostOp.code : HostOp → BitVec 2
  | .readPpm => 0
  | .readPpmTemp => 1
  | .resetSensor => 2
  | .disableAbc => 3

/-- The host operation as an instruction. -/
def HostOp.instr : HostOp → Instr
  | .readPpm => .readPpm
  | .readPpmTemp => .readPpmTemp
  | .resetSensor => .resetSensor
  | .disableAbc => .disableAbc

/-- The `SEND` form of a command (R2). -/
def Command.instr : Command → Instr
  | .read => .sendRead
  | .reset => .sendReset
  | .abcoff => .sendAbcoff

/-- Format `OP3` (R56): `op[2] = 1` is reserved. -/
def decodeOp3 : List Byte → Except DecodeError Instr
  | [b] =>
    if b = 0 then .ok .readPpm
    else if b = 1 then .ok .readPpmTemp
    else if b = 2 then .ok .resetSensor
    else if b = 3 then .ok .disableAbc
    else if b.toNat < 8 then .error .reservedOp
    else .error .notAnOp
  | _ => .error .notAnOp

/-- Format `CMD` (R54): the three constants and nothing else (R58 e). -/
def decodeCmd (bytes : List Byte) : Except DecodeError Instr :=
  match Frame.ofBytes bytes with
  | none => .error .notNineBytes
  | some f =>
    if f = cmdRom .read then .ok .sendRead
    else if f = cmdRom .reset then .ok .sendReset
    else if f = cmdRom .abcoff then .ok .sendAbcoff
    else .error .notACommand

/-- Format `RSP` (R53): every nine bytes are the operand of a `DECODE` (R58 d, R76); a marker other than 0xFF is an outcome
of that `DECODE`, not a refusal of the decoder (log 12). -/
def decodeRsp (bytes : List Byte) : Except DecodeError Instr :=
  match Frame.ofBytes bytes with
  | none => .error .notNineBytes
  | some f => .ok (.decode f)

/-- The decoder. Which format a word has is not in the word: the sequencer's phase says it (log 10). -/
def decode : Format → List Byte → Except DecodeError Instr
  | .op3, bytes => decodeOp3 bytes
  | .cmd, bytes => decodeCmd bytes
  | .rsp, bytes => decodeRsp bytes

/-- The format of an instruction's row. -/
def Instr.format : Instr → Format
  | .readPpm => .op3
  | .readPpmTemp => .op3
  | .resetSensor => .op3
  | .disableAbc => .op3
  | .sendRead => .cmd
  | .sendReset => .cmd
  | .sendAbcoff => .cmd
  | .decode _ => .rsp

/-- The bytes a word of a format takes: the `op` port's three wires in one byte, a frame in nine (R52). -/
def Format.byteLength : Format → Nat
  | .op3 => 1
  | .cmd => 9
  | .rsp => 9

/-- The encoder: the bytes of an instruction, from R53, R54 and R56. -/
def encode : Instr → List Byte
  | .readPpm => [0b000]
  | .readPpmTemp => [0b001]
  | .resetSensor => [0b010]
  | .disableAbc => [0b011]
  | .sendRead => [0xFF, 0x01, 0x86, 0x00, 0x00, 0x00, 0x00, 0x00, 0x79]
  | .sendReset => [0xFF, 0x01, 0x87, 0x00, 0x00, 0x00, 0x00, 0x00, 0x78]
  | .sendAbcoff => [0xFF, 0x01, 0x79, 0x00, 0x00, 0x00, 0x00, 0x00, 0x86]
  | .decode f => f.toBytes

/-- `some` of what a decoding answers, `none` where it refuses. -/
def answered : Except DecodeError Instr → Option Instr
  | .ok i => some i
  | .error _ => none

/-- The bytes of a table word as the hardware holds them: one byte for `OP3` (three bits, in whole bytes), the nine bytes of
`W(f)`, byte 0 in bits 71:64, for a frame (R10; log 10). -/
def tableBytes (nbits w : Nat) : List Byte :=
  if nbits = 3 ∨ nbits = 8 then
    if w < 256 then [BitVec.ofNat 8 w] else []
  else if nbits = 72 then
    if w < 2 ^ 72 then (Frame.ofWord (BitVec.ofNat 72 w)).toBytes else []
  else []

/-- What the decoder reads from a word numbered as spec/opcode_table.json numbers it. A 72-bit word that is one of the command
constants is read as that command, any other as a response (log 10): the table's `CMD` rows are the more specific. -/
def decodeTableWord (nbits w : Nat) : Option Instr :=
  if nbits = 72 then
    match decode .cmd (tableBytes nbits w) with
    | .ok i => some i
    | .error _ => answered (decode .rsp (tableBytes nbits w))
  else answered (decode .op3 (tableBytes nbits w))

end Sys2Proof
end

