-- ==== Sys2Proof/Config.lean ====
section
/-!
DEFINITION. What is fixed for one block (its parameters, spec 00_scope.md R7), what reaches it from outside on a tick (its
input ports, 10_state.md R14, R15), and the one free value: the inputs nobody has scripted.
-/
namespace Sys2Proof

/-- The parameters of 00_scope.md R7. Every rule is written for all values of them; the constraints are
`Params.wf` (WellFormed.lean). -/
structure Params where
  /-- `T_CLK` in microseconds. No rule reads it: it only converts the source's seconds into ticks (log 16). -/
  tClkMicros : Nat
  /-- `TW`, the width in bits of `TIMEOUT` and `TMO`. -/
  tw : Nat
  /-- `TIMEOUT_DEFAULT`, the reset value of `TIMEOUT`, in ticks. -/
  timeoutDefault : Nat
  /-- `POLL_TICKS`, the ticks slept after a poll that found no byte. -/
  pollTicks : Nat
  /-- `CKSUM_WRAP`: `false` compares the 9-bit checksum (this hardware), `true` its low 8 bits (90_conflicts.md C1). -/
  cksumWrap : Bool
deriving DecidableEq, Repr, Inhabited

/-- The reference configuration of 00_scope.md R7. -/
def Config.reference : Params where
  tClkMicros := 1000
  tw := 32
  timeoutDefault := 2000
  pollTicks := 100
  cksumWrap := false

/-- The input ports on one tick: the host's (10_state.md R14) and the transport's (R15). -/
structure Inputs where
  rst : Bool
  start : Bool
  op : BitVec 3
  cfgWe : Bool
  /-- The port has `TW` wires; a larger number stands for its low `TW` bits (log 13). -/
  cfgTimeout : Nat
  txReady : Bool
  txFail : Bool
  rxAvail : Bool
  /-- Meaningful only when `rxAvail` (R15). -/
  rxData : Byte
  rxFail : Bool
deriving DecidableEq, Repr, Inhabited

/-- Every input 0. -/
def Inputs.quiet : Inputs where
  rst := false
  start := false
  op := 0
  cfgWe := false
  cfgTimeout := 0
  txReady := false
  txFail := false
  rxAvail := false
  rxData := 0
  rxFail := false

/-- FREE VALUE (00_scope.md R13, 93_implementation_defined.md U5; log 2): what the ports carry on the n-th tick of a run
where the state's script says nothing. Nothing constrains it. -/
opaque Config.freeInputs : Nat → Inputs

end Sys2Proof
end

