-- ==== Sys2Proof/Machine/State.lean ====
section
/-!
DEFINITION. The state of the block (spec 10_state.md), its reset values (70_reset_and_hazards.md R110), and the reasons a tick
can stop. The frame buffer is the block's only storage: there is no addressed memory (20_memory.md R39; log 14).
-/
namespace Sys2Proof.Machine

/-- `ST`, the sequencer state (10_state.md R18). The values 5, 6 and 7 are never written and are left out (U13; log 8). -/
inductive Phase where
  | idle
  | send
  | wait
  | sleep
  | check
deriving DecidableEq, Repr, Inhabited

/-- `STATUS` (10_state.md R26, 30_encoding.md R57). The codes 8 to 15 are never written and are left out (U13; log 8). -/
inductive Status where
  | none
  | ok
  | readTimeout
  | badMarker
  | badChecksum
  | xportWrFail
  | xportRdFail
  | illegalOp
deriving DecidableEq, Repr, Inhabited

/-- The state. The first group is the spec's, each field with the width of 10_state.md (the three `TW`-bit counters are naturals,
R33 and log 13); the second group is the model's own. -/
structure State where
  /-- `ST` (R18). -/
  st : Phase
  /-- `OPR` (R19). -/
  opr : HostOp
  /-- `TXI`, 0 to 8 (R20). -/
  txi : BitVec 4
  /-- `CNT`, 0 to 9 (R21). -/
  cnt : BitVec 4
  /-- `BUF[0]` to `BUF[8]` (R16). -/
  buf : Frame
  /-- `DONE` (R23). -/
  done : Bool
  /-- `PPM_VALID` (R24). -/
  ppmValid : Bool
  /-- `TEMP_VALID` (R24). -/
  tempValid : Bool
  /-- Register 0 `TIMEOUT`, `TW` bits, in ticks (R25). -/
  timeout : Nat
  /-- Register 1 `STATUS` (R26). -/
  status : Status
  /-- Register 2 `PPM` (R27). -/
  ppm : BitVec 16
  /-- Register 3 `TEMP`, two's complement (R28). -/
  temp : BitVec 9
  /-- Register 4 `NRECV` (R29). -/
  nrecv : BitVec 4
  /-- Register 5 `CK_RECV` (R30). -/
  ckRecv : BitVec 8
  /-- Register 6 `CK_CALC` (R31). -/
  ckCalc : BitVec 9
  /-- `ELAPSED`, `TW + 1` bits, saturating (R33). -/
  elapsed : Nat
  /-- `TMO`, `TW` bits (R34). -/
  tmo : Nat
  /-- `SLP`, 0 to `POLL_TICKS` (R35). -/
  slp : Nat
  /-- The model's own: the parameters of the block (R7), which nothing changes (log 1). -/
  params : Params
  /-- The model's own: the inputs of the coming ticks, oldest first (log 2). -/
  script : List Inputs
  /-- The model's own: ticks done, the argument of the free inputs (log 2). -/
  tick : Nat
  /-- The model's own: the transmit stream of R39, every byte pushed, oldest first (log 4). -/
  txStream : List Byte
  /-- The model's own: the consumed part of the receive stream of R39, every byte popped, oldest first (log 4). -/
  rxTaken : List Byte
deriving DecidableEq, Repr, Inhabited

/-- Why a tick stops with a fault: it would use a place that does not exist. The hardware never comes there (R38; log 7); the
failures of 60_exceptions.md are next states and not faults. -/
inductive Fault where
  /-- Raised by the `SEND` tick when `TXI` is above 8: `CMDROM` has nine bytes in a row (R20, R36). Safe: the rules give such a
  state no behaviour, and no state of the invariant is one. -/
  | noCommandByte
  /-- Raised by the `WAIT` tick when a byte is to be stored and `CNT` is above 8: `BUF` has nine entries (R16, R21). Safe, as above. -/
  | noBufferEntry
  /-- Raised by the `SLEEP` tick when `SLP` is 0: it never counts below 0 (R35, R82). Safe, as above. -/
  | sleepCounterZero
deriving DecidableEq, Repr, Inhabited

/-- Why a tick has no meaning in the model. -/
inductive Refusal where
  /-- Raised by an arm of `exec` whose instruction has no meaning yet; no arm is one. Safe. -/
  | notModelled (mnemonic : String)
  /-- Raised by the meanings of `SEND.READ`, `SEND.RESET`, `SEND.ABCOFF` and `DECODE` when the sequencer is not in that
  instruction's phase: a primitive is never issued on its own (R2; log 6), and `step` never does it. Safe. -/
  | outsideItsPhase
  /-- Raised by a tick whose word does not decode, a reserved `op` apart (which is the refused start of R87). No state
  comes there: the `op` port has three wires and `CMDROM` holds only commands. Safe. -/
  | undecodable (e : DecodeError)
deriving DecidableEq, Repr, Inhabited

/-- What a tick answers. -/
abbrev Result := Host.Outcome State Fault Refusal

/-- The registers right after reset (70_reset_and_hazards.md R110) of a block with parameters `p`; nothing scripted, nothing
sent, nothing popped. -/
def State.resetWith (p : Params) : State where
  st := .idle
  opr := .readPpm
  txi := 0
  cnt := 0
  buf := { b0 := 0, b1 := 0, b2 := 0, b3 := 0, b4 := 0, b5 := 0, b6 := 0, b7 := 0, b8 := 0 }
  done := false
  ppmValid := false
  tempValid := false
  timeout := p.timeoutDefault
  status := .none
  ppm := 0
  temp := 0
  nrecv := 0
  ckRecv := 0
  ckCalc := 0
  elapsed := 0
  tmo := 0
  slp := 0
  params := p
  script := []
  tick := 0
  txStream := []
  rxTaken := []

/-- The machine right after reset, in the reference configuration (R7, R110): where the model starts (log 15). -/
def State.reset : State := State.resetWith Config.reference

end Sys2Proof.Machine
end

