-- ==== Sys2Proof/Machine/Operands.lean ====
section
/-!
DEFINITION. Where values come from: entries of a frame, bytes of `CMDROM`, the command of an operation, and the fields and the
checksum of a response (spec 30_encoding.md R55, 42_validator_decoder.md R78, R79).
-/
namespace Sys2Proof

/-- Entry `i` of a frame; there is none above 8 (20_memory.md R39). -/
def Frame.get? (f : Frame) (i : Nat) : Option Byte :=
  match i with
  | 0 => some f.b0
  | 1 => some f.b1
  | 2 => some f.b2
  | 3 => some f.b3
  | 4 => some f.b4
  | 5 => some f.b5
  | 6 => some f.b6
  | 7 => some f.b7
  | 8 => some f.b8
  | _ => none

/-- The frame with entry `i` replaced; unchanged where there is no entry `i`. -/
def Frame.set (f : Frame) (i : Nat) (b : Byte) : Frame :=
  match i with
  | 0 => { f with b0 := b }
  | 1 => { f with b1 := b }
  | 2 => { f with b2 := b }
  | 3 => { f with b3 := b }
  | 4 => { f with b4 := b }
  | 5 => { f with b5 := b }
  | 6 => { f with b6 := b }
  | 7 => { f with b7 := b }
  | 8 => { f with b8 := b }
  | _ => f

/-- The cleared frame buffer. -/
def Frame.zero : Frame :=
  { b0 := 0, b1 := 0, b2 := 0, b3 := 0, b4 := 0, b5 := 0, b6 := 0, b7 := 0, b8 := 0 }

/-- `sel(OPR)` (40_command_encoder.md R61): the command of an operation. -/
def HostOp.command : HostOp → Command
  | .readPpm => .read
  | .readPpmTemp => .read
  | .resetSensor => .reset
  | .disableAbc => .abcoff

/-- `OPR ∈ {0, 1}`: the operation reads a frame (R56). -/
def HostOp.isRead : HostOp → Bool
  | .readPpm => true
  | .readPpmTemp => true
  | .resetSensor => false
  | .disableAbc => false

/-- `CMDROM[c][i]` (00_scope.md R11). -/
def cmdByte (c : Command) (i : Nat) : Option Byte := (cmdRom c).get? i

/-- The number of a sequencer state (10_state.md R18, D15). -/
def Machine.Phase.code : Machine.Phase → BitVec 3
  | .idle => 0
  | .send => 1
  | .wait => 2
  | .sleep => 3
  | .check => 4

/-- The number of a status code (30_encoding.md R57). -/
def Machine.Status.code : Machine.Status → BitVec 4
  | .none => 0
  | .ok => 1
  | .readTimeout => 2
  | .badMarker => 3
  | .badChecksum => 4
  | .xportWrFail => 5
  | .xportRdFail => 6
  | .illegalOp => 7

/-- The payload sum `s` of R78: entries 1 to 7, ordinary integer addition, 0 to 1785. -/
def Frame.payloadSum (f : Frame) : Nat :=
  f.b1.toNat + f.b2.toNat + f.b3.toNat + f.b4.toNat + f.b5.toNat + f.b6.toNat + f.b7.toNat

/-- `(~v) & 0xFF`, which 00_scope.md R11 gives as `255 - (v mod 256)` (log 18). -/
def complementByte (v : Nat) : Nat := 255 - v % 256

/-- The calculated checksum `calc` of R78, masked before the increment: 9 bits, 1 to 256. -/
def Frame.calculated (f : Frame) : BitVec 9 := BitVec.ofNat 9 (complementByte f.payloadSum + 1)

/-- `match` of R78: with `CKSUM_WRAP = 0` (this hardware) on 9 bits, with `CKSUM_WRAP = 1` on the low 8 bits. -/
def Frame.checksumMatches (wrap : Bool) (f : Frame) : Bool :=
  if wrap then f.calculated.setWidth 8 == f.b8 else f.calculated == f.b8.setWidth 9

/-- `ppm = f[2] ‖ f[3]` (R79, 20_memory.md R42). -/
def Frame.ppm (f : Frame) : BitVec 16 := f.b2 ++ f.b3

/-- `temperature = zext_9(f[4]) − 40` (R79). -/
def Frame.temperature (f : Frame) : BitVec 9 := f.b4.setWidth 9 - 40

/-- What `DECODE` returns (R76). -/
inductive Reading where
  | ok (ppm : BitVec 16) (temperature : BitVec 9)
  | badMarker
  | badChecksum (received : Byte) (calculated : BitVec 9)
deriving DecidableEq, Repr, Inhabited

/-- `DECODE`, the pure function of 42_validator_decoder.md: marker (R77), then checksum (R78), then extraction (R79). -/
def Frame.reading (wrap : Bool) (f : Frame) : Reading :=
  if f.b0 ≠ 0xFF then .badMarker
  else if f.checksumMatches wrap then .ok f.ppm f.temperature
  else .badChecksum f.b8 f.calculated

end Sys2Proof
end

