-- ==== Sys2Proof/Machine/Flags.lean ====
section
/-!
DEFINITION. The flags and the numbered read-out (spec 10_state.md R22 to R32). The block has no arithmetic condition codes.
-/
namespace Sys2Proof.Machine

/-- `BUSY = (ST ≠ IDLE)` (R22). -/
def State.busy (s : State) : Bool := decide (s.st ≠ .idle)

/-- `FLAGS` (R32): bit 0 `BUSY`, bit 1 `DONE`, bit 2 `PPM_VALID`, bit 3 `TEMP_VALID`. -/
def State.flags (s : State) : BitVec 4 :=
  BitVec.ofBool s.tempValid ++ BitVec.ofBool s.ppmValid ++ BitVec.ofBool s.done ++ BitVec.ofBool s.busy

/-- The read-out of register `n` as an unsigned number, with no side effect (R14, 10_state.md section 5): `TEMP` gives its
9-bit pattern. Numbers above 7 do not exist (20_memory.md R40). -/
def State.readReg (s : State) (n : Nat) : Option Nat :=
  match n with
  | 0 => some s.timeout
  | 1 => some s.status.code.toNat
  | 2 => some s.ppm.toNat
  | 3 => some s.temp.toNat
  | 4 => some s.nrecv.toNat
  | 5 => some s.ckRecv.toNat
  | 6 => some s.ckCalc.toNat
  | 7 => some s.flags.toNat
  | _ => none

/-- The width of register `n` (10_state.md section 5). -/
def regWidth (p : Params) (n : Nat) : Option Nat :=
  match n with
  | 0 => some p.tw
  | 1 => some 4
  | 2 => some 16
  | 3 => some 9
  | 4 => some 4
  | 5 => some 8
  | 6 => some 9
  | 7 => some 4
  | _ => none

/-- The test of the `WAIT` tick's first branch (41_frame_reader.md R69): "exceeds", strictly greater. -/
def State.expired (s : State) : Bool := decide (s.elapsed > s.tmo)

end Sys2Proof.Machine
end

