-- ==== Sys2Proof/Machine/Ops.lean ====
section
/-!
DEFINITION. The named operations on the registers and the two byte streams that the tick rules are made of. Ending an
operation, failures included, is the one operation `State.complete` (spec 60_exceptions.md R96, R99); there is no return (R100).
-/
namespace Sys2Proof.Machine

/-- The inputs of this tick (00_scope.md R12): the script's next entry, or the free value where there is none (log 2). -/
def State.now (s : State) : Inputs :=
  match s.script with
  | i :: _ => i
  | [] => Config.freeInputs s.tick

/-- `sat_(TW+1)(v)` (00_scope.md R11, 10_state.md R33). -/
def satElapsed (p : Params) (v : Nat) : Nat := min v (2 ^ (p.tw + 1) - 1)

/-- What the `TW` wires of `cfg_timeout` carry (10_state.md R14; log 13). -/
def cfgValue (p : Params) (i : Inputs) : Nat := i.cfgTimeout % 2 ^ p.tw

/-- The result registers and valid flags at 0: what an accepted and a refused start share (43_composite_operations.md R86, R87). -/
def State.clearResults (s : State) : State :=
  { s with ppm := 0, ppmValid := false, temp := 0, tempValid := false, nrecv := 0, ckRecv := 0, ckCalc := 0 }

/-- An accepted start (R86). `TMO` takes the value `TIMEOUT` held before the tick (70_reset_and_hazards.md R117). -/
def State.acceptStart (op : HostOp) (s : State) : State :=
  { s.clearResults with opr := op, tmo := s.timeout, done := false, status := .none, st := .send }

/-- A refused start (R87): a reserved `op`. `ST` stays `IDLE`; `OPR` and `TMO` are not written. -/
def State.refuseStart (s : State) : State :=
  { s.clearResults with done := true, status := .illegalOp }

/-- `complete(s)` (60_exceptions.md R96): how every accepted operation ends, with a failure or without. -/
def State.complete (outcome : Status) (s : State) : State :=
  { s with
    status := outcome, done := true, nrecv := s.cnt, buf := Frame.zero,
    cnt := 0, txi := 0, elapsed := 0, slp := 0, st := .idle }

/-- `TxPush(b)` (00_scope.md R11): the byte is handed to the transport, which accepts it (10_state.md R15 a). -/
def State.txPush (b : Byte) (s : State) : State :=
  { s with txStream := s.txStream ++ [b] }

/-- `RxPop()` with the store of the popped byte: `BUF[CNT] <- b`, `CNT <- CNT + 1` (41_frame_reader.md R69, 20_memory.md R45 c). -/
def State.rxPop (b : Byte) (s : State) : State :=
  { s with rxTaken := s.rxTaken ++ [b], buf := s.buf.set s.cnt.toNat b, cnt := s.cnt + 1 }

/-- `SEND → WAIT` (40_command_encoder.md R62, 41_frame_reader.md R68): the reader's start of time. -/
def State.enterReader (s : State) : State :=
  { s with txi := 0, elapsed := 0, st := .wait }

/-- `TXI <- TXI + 1` (R62). -/
def State.nextCommandByte (s : State) : State :=
  { s with txi := s.txi + 1 }

/-- `ELAPSED <- sat_(TW+1)(ELAPSED + 1)` (10_state.md R33). -/
def State.countTick (s : State) : State :=
  { s with elapsed := satElapsed s.params (s.elapsed + 1) }

/-- `ST <- p`. -/
def State.goto (p : Phase) (s : State) : State :=
  { s with st := p }

/-- Step 3 of the reader's loop (R69): sleep `POLL_TICKS` ticks, or poll again at once when that is 0. -/
def State.pause (s : State) : State :=
  if s.params.pollTicks > 0 then { s with slp := s.params.pollTicks, st := .sleep } else { s with st := .wait }

/-- One tick of sleep (R70): `SLP <- SLP - 1`, and the sleep ends when it was 1. -/
def State.sleepOn (s : State) : State :=
  { s with slp := s.slp - 1, st := if s.slp = 1 then .wait else .sleep }

/-- The `OK` branch of the `CHECK` tick (42_validator_decoder.md R81): `READ_PPM_TEMP` alone writes the temperature. -/
def State.recordReading (ppm : BitVec 16) (temperature : BitVec 9) (s : State) : State :=
  if s.opr = .readPpmTemp then
    { s with ppm := ppm, ppmValid := true, temp := temperature, tempValid := true }
  else { s with ppm := ppm, ppmValid := true }

/-- The `BAD_CHECKSUM` branch of the `CHECK` tick (R81). -/
def State.recordChecksum (received : Byte) (calculated : BitVec 9) (s : State) : State :=
  { s with ckRecv := received, ckCalc := calculated }

/-- The configuration write (10_state.md R25): on any tick without reset, in any state. -/
def State.configure (i : Inputs) (s : State) : State :=
  { s with timeout := if i.cfgWe then cfgValue s.params i else s.timeout }

/-- The tick is over: its inputs are gone (log 2). -/
def State.nextTick (s : State) : State :=
  { s with script := s.script.tail, tick := s.tick + 1 }

/-- Hardware reset (70_reset_and_hazards.md R109, R110): every register takes its reset value. The parameters, and the bytes
that have been pushed and popped, stay what they are. -/
def State.hardwareReset (s : State) : State :=
  { State.resetWith s.params with
    script := s.script, tick := s.tick, txStream := s.txStream, rxTaken := s.rxTaken }

/-- What the tick does beside the rule of its phase (00_scope.md R12): the configuration write, and the end of the tick. A tick
that stops has no end. -/
def endOfTick (i : Inputs) : Result → Result
  | .next s => .next (s.configure i).nextTick
  | .fault r => .fault r
  | .refused r => .refused r

end Sys2Proof.Machine
end

