-- ==== Sys2Proof/Machine/CommandEncoder.lean ====
section
/-!
DEFINITION. The Command Encoder (spec 40_command_encoder.md): the `SEND` tick for each of the three commands.
-/
namespace Sys2Proof.Machine

/-- The ninth byte is on its way (R62): a read operation enters the reader, a send-only operation is finished. -/
def lastByteSent (s : State) : State :=
  if s.opr.isRead then s.enterReader else s.complete .ok

/-- The `SEND` tick (R62): a failure wins over readiness (R98); without either, the block waits, with no limit (R116). -/
def sendTick (c : Command) (s : State) : Result :=
  if s.st = .send ∧ s.opr.command = c then
    if s.now.txFail then .next (s.complete .xportWrFail)
    else if s.now.txReady then
      match cmdByte c s.txi.toNat with
      | none => .fault .noCommandByte
      | some b =>
        if s.txi = 8 then .next (lastByteSent (s.txPush b))
        else .next (s.txPush b).nextCommandByte
    else .next s
  else .refused .outsideItsPhase

/-- `SEND.READ` (R63). -/
def execSendRead (s : State) : Result := sendTick .read s

/-- `SEND.RESET` (R64). -/
def execSendReset (s : State) : Result := sendTick .reset s

/-- `SEND.ABCOFF` (R65). -/
def execSendAbcoff (s : State) : Result := sendTick .abcoff s

end Sys2Proof.Machine
end

