-- ==== Sys2Proof/Machine/FrameReader.lean ====
section
/-!
DEFINITION. The Frame Reader (spec 41_frame_reader.md): `READ_FRAME`, which has no encoding and is no constructor of `Instr`
(log 9), as its two tick rules.
-/
namespace Sys2Proof.Machine

/-- The `WAIT` tick (R69): timeout, then failure, then one byte, then sleep, in that order (R98). -/
def waitTick (s : State) : Result :=
  if s.expired then .next (s.complete .readTimeout)
  else if s.now.rxFail then .next (s.complete .xportRdFail)
  else if s.now.rxAvail then
    if s.cnt.toNat ≤ 8 then
      .next (((s.rxPop s.now.rxData).countTick).goto (if s.cnt = 8 then .check else .wait))
    else .fault .noBufferEntry
  else .next s.countTick.pause

/-- The `SLEEP` tick (R70): nothing is tested and no port is looked at. -/
def sleepTick (s : State) : Result :=
  if s.slp = 0 then .fault .sleepCounterZero else .next s.countTick.sleepOn

end Sys2Proof.Machine
end

