-- ==== Sys2Proof/Machine/HostOperations.lean ====
section
/-!
DEFINITION. The four host operations (spec 43_composite_operations.md). The meaning of one is the effect of its `start` on the
tick it is given (R86, R89; log 5); the chain of R60 that an accepted start sets going then runs through the sequencer, tick by tick.
-/
namespace Sys2Proof.Machine

/-- A `start` with a legal code: accepted in `IDLE` (R86), without any effect while an operation runs (R89). -/
def issueStart (op : HostOp) (s : State) : Result :=
  if s.st = .idle then .next (s.acceptStart op) else .next s

/-- `READ_PPM` (R90). -/
def execReadPpm (s : State) : Result := issueStart .readPpm s

/-- `READ_PPM_TEMP` (R91). -/
def execReadPpmTemp (s : State) : Result := issueStart .readPpmTemp s

/-- `RESET_SENSOR` (R92). -/
def execResetSensor (s : State) : Result := issueStart .resetSensor s

/-- `DISABLE_ABC` (R93). -/
def execDisableAbc (s : State) : Result := issueStart .disableAbc s

end Sys2Proof.Machine
end

