-- ==== Sys2Proof/Machine/Validator.lean ====
section
/-!
DEFINITION. The Frame Validator and Decoder (spec 42_validator_decoder.md): the `CHECK` tick.
-/
namespace Sys2Proof.Machine

/-- How the `CHECK` tick ends the operation for each result of `DECODE` (R81). -/
def finishReading (r : Reading) (s : State) : State :=
  match r with
  | .ok ppm temperature => (s.recordReading ppm temperature).complete .ok
  | .badMarker => s.complete .badMarker
  | .badChecksum received calculated => (s.recordChecksum received calculated).complete .badChecksum

/-- `DECODE` (R76, R81): the frame is the instruction's operand, which `step` takes from `BUF`. -/
def execDecode (f : Frame) (s : State) : Result :=
  if s.st = .check then .next (finishReading (f.reading s.params.cksumWrap) s)
  else .refused .outsideItsPhase

end Sys2Proof.Machine
end

