-- ==== Sys2Proof/Machine/Dispatch.lean ====
section
/-!
DEFINITION. One arm per constructor of Instr, each a direct call of its meaning.
-/
namespace Sys2Proof.Machine

def exec (i : Instr) (s : State) : Host.Outcome State Fault Refusal :=
  match i with
  | .readPpm => Sys2Proof.Machine.execReadPpm s
  | .readPpmTemp => Sys2Proof.Machine.execReadPpmTemp s
  | .resetSensor => Sys2Proof.Machine.execResetSensor s
  | .disableAbc => Sys2Proof.Machine.execDisableAbc s
  | .sendRead => Sys2Proof.Machine.execSendRead s
  | .sendReset => Sys2Proof.Machine.execSendReset s
  | .sendAbcoff => Sys2Proof.Machine.execSendAbcoff s
  | .decode f => Sys2Proof.Machine.execDecode f s

end Sys2Proof.Machine
end

