-- ==== Sys2Proof/WellFormed.lean ====
section
/-!
DEFINITION. What a term must satisfy to stand for something the spec has.
-/
namespace Sys2Proof

/-- The constraints of 00_scope.md R7: a tick lasts, `TW` is at least 1, and the default timeout fits `TW` bits. -/
abbrev Params.wf (p : Params) : Prop :=
  0 < p.tClkMicros ∧ 1 ≤ p.tw ∧ p.timeoutDefault < 2 ^ p.tw

/-- Every term of `Instr` is well-formed: seven constructors carry nothing, and `DECODE` carries nine bytes, every
sequence of which is a legal operand (30_encoding.md R58 d). The type leaves nothing to check (log 12). -/
def Instr.wf : Instr → Bool
  | .readPpm => true
  | .readPpmTemp => true
  | .resetSensor => true
  | .disableAbc => true
  | .sendRead => true
  | .sendReset => true
  | .sendAbcoff => true
  | .decode _ => true

end Sys2Proof
end

