-- ==== Sys2Proof/Machine/Sequencer.lean ====
section
/-!
DEFINITION. What decides the next step in place of a program counter (spec 10_state.md R17, 00_scope.md R12): the word a tick
runs, the tick of each phase, the whole tick, the output ports of a tick, and the placing of a word for the next tick.
-/
namespace Sys2Proof.Machine

/-- What a tick without reset does. -/
inductive Work where
  /-- It runs a word of a format: a host operation, a `SEND` form or a `DECODE`. -/
  | word (fmt : Format) (bytes : List Byte)
  /-- `IDLE` without a start: nothing (R88). -/
  | rest
  /-- `WAIT`: one poll of `READ_FRAME` (R69). -/
  | poll
  /-- `SLEEP`: one tick of the pause of `READ_FRAME` (R70). -/
  | pause
deriving DecidableEq, Repr

/-- What the coming tick does, and the word where it runs one: the `op` port on an `IDLE` tick with `start` (R56), the command
constant of the running operation in `SEND` (R61), the frame buffer in `CHECK` (R81) (log 10). Outside `IDLE` the host's
`start` and `op` are not looked at (R89). -/
def State.work (s : State) : Work :=
  match s.st with
  | .idle => if s.now.start then .word .op3 [s.now.op.setWidth 8] else .rest
  | .send => .word .cmd (cmdRom s.opr.command).toBytes
  | .wait => .poll
  | .sleep => .pause
  | .check => .word .rsp s.buf.toBytes

/-- Run a word: the decoded instruction, or the refused start of R87 for a reserved operation code. -/
def runWord (fmt : Format) (bytes : List Byte) (s : State) : Result :=
  match decode fmt bytes with
  | .ok i => exec i s
  | .error .reservedOp => .next s.refuseStart
  | .error e => .refused (.undecodable e)

/-- The tick rule of the phase (R12). -/
def phaseTick (s : State) : Result :=
  match s.work with
  | .word fmt bytes => runWord fmt bytes s
  | .rest => .next s
  | .poll => waitTick s
  | .pause => sleepTick s

/-- One tick (R12): reset wins over everything (R98, R109); otherwise the rule of the phase, and with it the configuration
write (R25). -/
def clockTick (s : State) : Result :=
  if s.now.rst then .next s.hardwareReset.nextTick else endOfTick s.now (phaseTick s)

/-- The output ports (10_state.md R14, R15). -/
structure Outputs where
  busy : Bool
  done : Bool
  txPush : Bool
  txData : Byte
  rxPop : Bool
deriving DecidableEq, Repr, Inhabited

/-- `tx_push` (R62): only on a `SEND` tick with `tx_ready`, without `tx_fail`, and not under reset (R109). -/
def State.pushes (s : State) : Bool :=
  !s.now.rst && decide (s.st = .send) && !s.now.txFail && s.now.txReady

/-- `rx_pop` (R69): only in the third branch of a `WAIT` tick, and not under reset (R109). -/
def State.pops (s : State) : Bool :=
  !s.now.rst && decide (s.st = .wait) && !s.expired && !s.now.rxFail && s.now.rxAvail

/-- The output ports during the coming tick, from the registers before it and its inputs (R12). `tx_data` is 0 without a push
(R15); a `TXI` above 8, which no run reaches, reads as 0 here because that tick stops (log 17). -/
def State.outputs (s : State) : Outputs where
  busy := s.busy
  done := s.done
  txPush := s.pushes
  txData := if s.pushes then (cmdByte s.opr.command s.txi.toNat).getD 0 else 0
  rxPop := s.pops

/-- The head of the script, or quiet inputs where there is none, with reset low (log 11). -/
def State.clearHead (s : State) : Inputs :=
  { s.script.headD Inputs.quiet with rst := false }

/-- `s` with a `start` of the code `op` on the ports of the coming tick, in `IDLE`. -/
def State.placeOp (op : BitVec 3) (s : State) : State :=
  { s with st := .idle, script := { s.clearHead with start := true, op := op } :: s.script.tail }

/-- `s` at the first `SEND` tick of an operation that sends command `c`, with a transport that accepts the byte. -/
def State.placeCommand (c : Command) (s : State) : State :=
  { s with
    st := .send, txi := 0
    opr := if s.opr.command = c then s.opr else
      match c with
      | .read => .readPpm
      | .reset => .resetSensor
      | .abcoff => .disableAbc
    script := { s.clearHead with txReady := true, txFail := false } :: s.script.tail }

/-- `s` at the `CHECK` tick of a read operation that has received `f`. -/
def State.placeFrame (f : Frame) (s : State) : State :=
  { s with
    st := .check, cnt := 9, buf := f
    opr := if s.opr.isRead then s.opr else .readPpm
    script := s.clearHead :: s.script.tail }

/-- `s` with the table word placed where the coming tick takes its word from (log 11). A number that no word of the machine
can be changes nothing. -/
def State.placeWord (s : State) (nbits w : Nat) : State :=
  if nbits = 72 then
    match decodeTableWord nbits w with
    | some .sendRead => s.placeCommand .read
    | some .sendReset => s.placeCommand .reset
    | some .sendAbcoff => s.placeCommand .abcoff
    | some (.decode f) => s.placeFrame f
    | some .readPpm => s
    | some .readPpmTemp => s
    | some .resetSensor => s
    | some .disableAbc => s
    | none => s
  else if (nbits = 3 ∨ nbits = 8) ∧ w < 8 then s.placeOp (BitVec.ofNat 3 w)
  else s

end Sys2Proof.Machine
end

