-- ==== Sys2Proof/Machine/Transport.lean ====
section
/-!
DEFINITION. A transport that keeps the obligations of spec 10_state.md R15, beside the block (log 3). It is the environment's
state and not the block's (00_scope.md R13, 10_state.md R37): `step` alone assumes none of it.
-/
namespace Sys2Proof.Machine

/-- The transport as the block sees it: its receive queue, oldest byte first. Handed-over bytes are in the block's
`txStream`, in order (R15 a). -/
structure Transport where
  queue : List Byte
deriving DecidableEq, Repr, Inhabited

/-- Bytes arrive from the sensor in the order it sent them (R15 d). -/
def Transport.arrive (t : Transport) (bytes : List Byte) : Transport :=
  { queue := t.queue ++ bytes }

/-- The receive ports show the head of the queue (R15); without one, `rx_data` is whatever `i` says (U6). -/
def Transport.drive (t : Transport) (i : Inputs) : Inputs :=
  { i with rxAvail := !t.queue.isEmpty, rxData := t.queue.headD i.rxData }

/-- A popped byte is removed, an unpopped head stays (R15 b, c). -/
def Transport.after (t : Transport) (o : Outputs) : Transport :=
  { queue := if o.rxPop then t.queue.tail else t.queue }

/-- Emptying the queue: an action of the caller on the transport (20_memory.md R51). -/
def Transport.flush (_ : Transport) : Transport := { queue := [] }

/-- The block with a transport. -/
structure Bench where
  block : State
  transport : Transport
deriving DecidableEq, Repr, Inhabited

/-- The block's state at a tick on which `bytes` arrive and the other inputs are `i`. -/
def Bench.presented (b : Bench) (bytes : List Byte) (i : Inputs) : State :=
  { b.block with script := (b.transport.arrive bytes).drive i :: b.block.script }

/-- One tick of both. A byte that arrives on a tick is in the queue as that tick reads it (95_test_vectors.md, section 6). -/
def Bench.tick (b : Bench) (bytes : List Byte) (i : Inputs) : Host.Outcome Bench Fault Refusal :=
  match step (b.presented bytes i) with
  | .next s =>
    .next { block := s, transport := (b.transport.arrive bytes).after (b.presented bytes i).outputs }
  | .fault r => .fault r
  | .refused r => .refused r

end Sys2Proof.Machine
end

