-- ==== Sys2Proof/Safety.lean ====
section
/-!
DEFINITION. What holds on every tick of a run (spec 10_state.md R38 and the derived notes of R16 to R35), as decidable
predicates of a state, and the bound on the reader (41_frame_reader.md R72).
-/
namespace Sys2Proof.Machine

/-- `n` ticks, stopping where one stops: the host's `Core.run` of this machine (Laws/Run.lean proves it). -/
def ticks : Nat → State → Result
  | 0, s => .next s
  | n + 1, s =>
    match step s with
    | .next t => ticks n t
    | .fault r => .fault r
    | .refused r => .refused r

/-- The result registers and valid flags are all 0. -/
abbrev State.NoResults (s : State) : Prop :=
  s.ppm = 0 ∧ s.ppmValid = false ∧ s.temp = 0 ∧ s.tempValid = false ∧
  s.nrecv = 0 ∧ s.ckRecv = 0 ∧ s.ckCalc = 0

/-- Each counter fits its width (R25, R33, R34), in a block whose parameters obey R7. -/
abbrev State.WidthInv (s : State) : Prop :=
  s.params.wf ∧ s.timeout < 2 ^ s.params.tw ∧ s.tmo < 2 ^ s.params.tw ∧
  s.elapsed < 2 ^ (s.params.tw + 1)

/-- The table of R38, row by row; and, which R38 does not say, that the result registers are 0 while an operation runs (R86, R96). -/
abbrev State.PhaseInv (s : State) : Prop :=
  (s.st = .idle →
    s.cnt = 0 ∧ s.txi = 0 ∧ s.elapsed = 0 ∧ s.slp = 0 ∧ s.buf = Frame.zero) ∧
  (s.st = .send →
    s.cnt = 0 ∧ s.txi.toNat ≤ 8 ∧ s.elapsed = 0 ∧ s.slp = 0 ∧ s.buf = Frame.zero ∧
    s.done = false ∧ s.status = .none) ∧
  (s.st = .wait →
    s.opr.isRead = true ∧ s.cnt.toNat ≤ 8 ∧ s.txi = 0 ∧ s.slp = 0 ∧ s.done = false ∧ s.status = .none) ∧
  (s.st = .sleep →
    s.opr.isRead = true ∧ s.cnt.toNat ≤ 8 ∧ s.txi = 0 ∧ 1 ≤ s.slp ∧ s.slp ≤ s.params.pollTicks ∧
    0 < s.params.pollTicks ∧ s.done = false ∧ s.status = .none) ∧
  (s.st = .check →
    s.opr.isRead = true ∧ s.cnt = 9 ∧ s.txi = 0 ∧ s.slp = 0 ∧ s.done = false ∧ s.status = .none) ∧
  (∀ i < 9, s.cnt.toNat ≤ i → s.buf.get? i = some 0) ∧
  (s.done = true → s.st = .idle) ∧
  (s.done = false → s.st = .idle → s.status = .none ∧ s.NoResults) ∧
  (s.st ≠ .idle → s.NoResults)

/-- The invariant of a run. -/
abbrev State.Inv (s : State) : Prop := s.WidthInv ∧ s.PhaseInv

/-- What the registers say after an operation has ended with each status (R24, R27 to R31): which values are valid, how many
bytes were received, and whether checksums are recorded. -/
abbrev State.ResultInv (s : State) : Prop :=
  (s.status = .none → s.done = false ∧ s.NoResults) ∧
  (s.status = .ok →
    s.done = true ∧ s.ppmValid = s.opr.isRead ∧ (s.tempValid = true ↔ s.opr = .readPpmTemp) ∧
    (s.opr.isRead = true → s.nrecv = 9) ∧ (s.opr.isRead = false → s.nrecv = 0) ∧ s.ckRecv = 0 ∧ s.ckCalc = 0) ∧
  (s.status = .badMarker →
    s.done = true ∧ s.opr.isRead = true ∧ s.ppmValid = false ∧ s.tempValid = false ∧ s.nrecv = 9 ∧
    s.ckRecv = 0 ∧ s.ckCalc = 0) ∧
  (s.status = .badChecksum →
    s.done = true ∧ s.opr.isRead = true ∧ s.ppmValid = false ∧ s.tempValid = false ∧ s.nrecv = 9 ∧
    1 ≤ s.ckCalc.toNat ∧ s.ckCalc.toNat ≤ 256) ∧
  (s.status = .readTimeout ∨ s.status = .xportRdFail →
    s.done = true ∧ s.opr.isRead = true ∧ s.ppmValid = false ∧ s.tempValid = false ∧ s.nrecv.toNat ≤ 8 ∧
    s.ckRecv = 0 ∧ s.ckCalc = 0) ∧
  (s.status = .xportWrFail ∨ s.status = .illegalOp → s.done = true ∧ s.NoResults) ∧
  (s.ppmValid = false → s.ppm = 0) ∧
  (s.tempValid = false → s.temp = 0) ∧
  (-40 ≤ s.temp.toInt ∧ s.temp.toInt ≤ 215)

/-- Where the two streams stand (R66, R71): in `SEND` the last `TXI` bytes sent are the first `TXI` bytes of the operation's
command; in the reader and the decoder the whole Read command has been sent and the buffer holds the last `CNT` bytes
popped, in order. -/
abbrev State.StreamInv (s : State) : Prop :=
  (s.st = .send → (cmdRom s.opr.command).toBytes.take s.txi.toNat <:+ s.txStream) ∧
  (s.st = .wait ∨ s.st = .sleep ∨ s.st = .check →
    (cmdRom .read).toBytes <:+ s.txStream ∧ s.buf.toBytes.take s.cnt.toNat <:+ s.rxTaken)

/-- The reader has taken no more bytes than ticks have passed, and a frame is complete only when the deadline allowed nine
polls (R72 e, 70_reset_and_hazards.md R118). -/
abbrev State.TimerInv (s : State) : Prop :=
  (s.st = .wait ∨ s.st = .sleep → s.cnt.toNat ≤ s.elapsed) ∧ (s.st = .check → 8 ≤ s.tmo)

/-- The block is in the reader (10_state.md R17: the source's `Waiting`). -/
abbrev State.InReader (s : State) : Prop := s.st = .wait ∨ s.st = .sleep

/-- The most ticks the reader can still last (R72 c): from a poll before the deadline to the first poll past it, at most one
pause late. -/
def State.readerBound (s : State) : Nat := s.tmo + 2 + s.params.pollTicks

/-- The transitions of R18, a tick that stays where it is included. -/
abbrev Phase.Leads (p q : Phase) : Prop :=
  (p = .idle ∧ q = .idle) ∨ (p = .idle ∧ q = .send) ∨
  (p = .send ∧ q = .send) ∨ (p = .send ∧ q = .wait) ∨ (p = .send ∧ q = .idle) ∨
  (p = .wait ∧ q = .wait) ∨ (p = .wait ∧ q = .sleep) ∨ (p = .wait ∧ q = .check) ∨ (p = .wait ∧ q = .idle) ∨
  (p = .sleep ∧ q = .sleep) ∨ (p = .sleep ∧ q = .wait) ∨
  (p = .check ∧ q = .idle)

end Sys2Proof.Machine
end

