-- ==== Sys2Proof/Certificates/Slice0/Obligations.lean ====
section
/-!
DEFINITION. The statements for the provers. Each docstring names the rules of spec/ it formalises. `s.now` is the record of the
port inputs on the tick; `(m.configure s.now).nextTick` is `m` with the configuration write of 10_state.md R25 and the
tick over (Machine/Ops.lean); a statement holds whatever the free inputs are.
-/
open Sys2Proof Sys2Proof.Machine

/-! ### Encodings -/

/-- Words written out from 30_encoding.md R53, R54, R56 and 42_validator_decoder.md R85 decode to what they stand for. -/
def Obligations.SpecWordsDecode : Prop :=
  decode .op3 [0b00000000] = .ok .readPpm ∧
  decode .op3 [0b00000001] = .ok .readPpmTemp ∧
  decode .op3 [0b00000010] = .ok .resetSensor ∧
  decode .op3 [0b00000011] = .ok .disableAbc ∧
  decode .cmd [255, 1, 134, 0, 0, 0, 0, 0, 121] = .ok .sendRead ∧
  decode .cmd [255, 1, 135, 0, 0, 0, 0, 0, 120] = .ok .sendReset ∧
  decode .cmd [255, 1, 121, 0, 0, 0, 0, 0, 134] = .ok .sendAbcoff ∧
  decode .rsp [255, 1, 3, 32, 63, 0, 0, 0, 157] =
    .ok (.decode { b0 := 255, b1 := 1, b2 := 3, b3 := 32, b4 := 63, b5 := 0, b6 := 0, b7 := 0, b8 := 157 })

/-- In each format the decoder accepts exactly the words the encoder writes, and reads each as the instruction that was
written: no bit is dropped and no word has two meanings (R53, R54, R56, R58 d, R58 e). -/
def Obligations.DecodeIffEncode : Prop :=
  ∀ (fmt : Format) (bytes : List Byte) (i : Instr),
    decode fmt bytes = .ok i ↔ i.format = fmt ∧ encode i = bytes

/-- The 72-bit word `W(f)` of every frame, byte 0 in bits 71:64 (00_scope.md R10), is read as the command it is (R54), or else
as the `DECODE` of that frame (R53); an operation code is read as R56 says, 4 to 7 and numbers wider than three bits not at
all (R58 a). That a command constant is read as a command is the model's choice (log 10). -/
def Obligations.TableWordsDecode : Prop :=
  (∀ f : Frame, decodeTableWord 72 f.toWord.toNat =
    some (if f = cmdRom .read then .sendRead
      else if f = cmdRom .reset then .sendReset
      else if f = cmdRom .abcoff then .sendAbcoff
      else .decode f)) ∧
  (∀ op : HostOp, decodeTableWord 8 op.code.toNat = some op.instr) ∧
  (∀ w, 4 ≤ w → decodeTableWord 8 w = none)

/-- Of the eight values of the `op` port exactly 4 to 7 are rejected, as reserved (R56, R58 a). -/
def Obligations.ReservedOpsRejected : Prop :=
  ∀ op : BitVec 3, decode .op3 [op.setWidth 8] = .error .reservedOp ↔ 4 ≤ op.toNat

/-! ### The tick -/

/-- A tick without reset whose word decodes to an instruction is that instruction, and with it the configuration write and the
end of the tick (00_scope.md R12; log 10). -/
def Obligations.StepRunsDecodedInstruction : Prop :=
  ∀ (s : State) (fmt : Format) (bytes : List Byte) (i : Instr),
    s.now.rst = false → s.work = .word fmt bytes → decode fmt bytes = .ok i → i.wf = true →
    step s = endOfTick s.now (exec i s)

/-- A word of the table, placed, is what the very next tick runs, from every state (log 11; the model's own convention). -/
def Obligations.PlacedWordRuns : Prop :=
  ∀ (s : State) (nbits w : Nat) (i : Instr), decodeTableWord nbits w = some i →
    step (s.withFetchWord nbits w) =
      endOfTick (s.withFetchWord nbits w).now (exec i (s.withFetchWord nbits w))

/-- What reset leaves, for every value of the parameters: every row of the table of 70_reset_and_hazards.md R110, the output
ports among them, and `TIMEOUT` 2000 in the reference configuration (00_scope.md R7). -/
def Obligations.ResetValues : Prop :=
  (∀ (p : Params), let s := State.resetWith p
    s.st.code = 0 ∧ s.opr.code = 0 ∧ s.txi = 0 ∧ s.cnt = 0 ∧ (∀ i < 9, s.buf.get? i = some 0) ∧
    s.elapsed = 0 ∧ s.tmo = 0 ∧ s.slp = 0 ∧ s.timeout = p.timeoutDefault ∧ s.status.code = 0 ∧ s.done = false ∧
    s.ppm = 0 ∧ s.ppmValid = false ∧ s.temp = 0 ∧ s.tempValid = false ∧ s.nrecv = 0 ∧ s.ckRecv = 0 ∧
    s.ckCalc = 0 ∧
    s.outputs = { busy := false, done := false, txPush := false, txData := 0, rxPop := false }) ∧
  State.reset.timeout = 2000 ∧ State.reset.params.tw = 32 ∧ State.reset.params.pollTicks = 100

/-- A tick with `rst = 1` puts every register to its reset value whatever the state and the other inputs are, pushes and pops
nothing, ignores `cfg_we` and `start`, and leaves the bytes already pushed and popped (R109; logs 2, 4). -/
def Obligations.ResetTick : Prop :=
  ∀ s : State, s.now.rst = true →
    step s = .next { State.resetWith s.params with
      script := s.script.tail, tick := s.tick + 1, txStream := s.txStream, rxTaken := s.rxTaken } ∧
    s.outputs.txPush = false ∧ s.outputs.txData = 0 ∧ s.outputs.rxPop = false

/-- `TIMEOUT` after a tick without reset: the port's value on a configuration write, in any state, and otherwise what it was;
nothing else writes it (10_state.md R25; that a wider number stands for its low `TW` bits is log 13). -/
def Obligations.TimeoutWrittenByHostOnly : Prop :=
  ∀ s t : State, step s = .next t → s.now.rst = false →
    t.timeout = if s.now.cfgWe then s.now.cfgTimeout % 2 ^ s.params.tw else s.timeout

/-- `TMO` is 0 after reset, a copy of `TIMEOUT` as it was before the tick after an accepted start, and otherwise what it was: a
running operation's deadline cannot move (10_state.md R34, 41_frame_reader.md R73, 70_reset_and_hazards.md R117). -/
def Obligations.TmoWrittenByStartOnly : Prop :=
  ∀ s t : State, step s = .next t →
    t.tmo =
      if s.now.rst then 0
      else if s.st = .idle ∧ s.now.start = true ∧ s.now.op.toNat ≤ 3 then s.timeout
      else s.tmo

/-- A start with a reserved operation code: refused with `ILLEGAL_OP`, the results wiped, `ST`, `OPR` and `TMO` as they were,
nothing pushed or popped (43_composite_operations.md R87). -/
def Obligations.RefusedStart : Prop :=
  ∀ s : State, s.now.rst = false → s.st = .idle → s.now.start = true → 4 ≤ s.now.op.toNat →
    step s = .next (({ s with
      done := true, status := .illegalOp, ppm := 0, ppmValid := false, temp := 0, tempValid := false,
      nrecv := 0, ckRecv := 0, ckCalc := 0 } : State).configure s.now).nextTick ∧
    s.outputs.txPush = false ∧ s.outputs.rxPop = false

/-- A start with a legal operation code: `OPR` and `TMO` latched, the results cleared, `SEND` next; `TXI`, `CNT`, `BUF`,
`ELAPSED`, `SLP` not written (and 0 in a run), nothing pushed or popped (R86). -/
def Obligations.AcceptedStart : Prop :=
  ∀ (s : State) (op : HostOp), s.now.rst = false → s.st = .idle → s.now.start = true →
    s.now.op = op.code.setWidth 3 →
    step s = .next (({ s with
      opr := op, tmo := s.timeout, done := false, status := .none, ppm := 0, ppmValid := false, temp := 0,
      tempValid := false, nrecv := 0, ckRecv := 0, ckCalc := 0, st := .send } : State).configure s.now).nextTick ∧
    s.outputs.txPush = false ∧ s.outputs.rxPop = false ∧
    (s.Inv → s.txi = 0 ∧ s.cnt = 0 ∧ s.buf = Frame.zero ∧ s.elapsed = 0 ∧ s.slp = 0)

/-- `IDLE` without a start: no register changes except `TIMEOUT` under `cfg_we`; nothing is pushed or popped (R88). -/
def Obligations.IdleTick : Prop :=
  ∀ s : State, s.now.rst = false → s.st = .idle → s.now.start = false →
    step s = .next (s.configure s.now).nextTick ∧ s.outputs.txPush = false ∧ s.outputs.rxPop = false

/-- Outside `IDLE` the ports `start` and `op` make no difference to what a tick answers, the tick of `complete` included
(R89). -/
def Obligations.BusyStartIgnored : Prop :=
  ∀ (s : State) (i : Inputs) (rest : List Inputs) (start : Bool) (op : BitVec 3), s.st ≠ .idle →
    step { s with script := { i with start := start, op := op } :: rest } = step { s with script := i :: rest }

/-- In `IDLE`, `SLEEP` and `CHECK` no transport port makes a difference to what a tick answers (41_frame_reader.md R70,
60_exceptions.md R98 item 4, R101). -/
def Obligations.TransportIgnoredOutsideSendAndWait : Prop :=
  ∀ (s : State) (i j : Inputs) (rest : List Inputs), s.st = .idle ∨ s.st = .sleep ∨ s.st = .check →
    step { s with script := { i with
      txReady := j.txReady, txFail := j.txFail, rxAvail := j.rxAvail, rxData := j.rxData,
      rxFail := j.rxFail } :: rest } = step { s with script := i :: rest }

/-- `rx_data` makes no difference on a tick with `rx_avail = 0` (10_state.md R15, 93_implementation_defined.md U6). -/
def Obligations.UnavailableDataUnused : Prop :=
  ∀ (s : State) (i : Inputs) (rest : List Inputs) (d : Byte), i.rxAvail = false →
    step { s with script := { i with rxData := d } :: rest } = step { s with script := i :: rest }

/-! ### Host operations -/

/-- `READ_PPM`, `READ_PPM_TEMP`, `RESET_SENSOR` and `DISABLE_ABC` complete in `IDLE`: the start is accepted, with exactly these
effects (R86, R90 to R93; log 5). The chain the start sets going is stated by the statements on the ticks of the other phases. -/
def Obligations.HostOperationAccepted : Prop :=
  ∀ (op : HostOp) (s : State), s.st = .idle →
    exec op.instr s = .next { s with
      opr := op, tmo := s.timeout, done := false, status := .none, ppm := 0, ppmValid := false, temp := 0,
      tempValid := false, nrecv := 0, ckRecv := 0, ckCalc := 0, st := .send }

/-- The four host operations given outside `IDLE` have no effect (R89). -/
def Obligations.HostOperationIgnoredWhileBusy : Prop :=
  ∀ (op : HostOp) (s : State), s.st ≠ .idle → exec op.instr s = .next s

/-- The frame of the four host operations: the buffer, the counters, the timer, `TIMEOUT` and both streams stay (R86, R89). -/
def Obligations.HostOperationFrame : Prop :=
  ∀ (op : HostOp) (s t : State), exec op.instr s = .next t →
    t.txi = s.txi ∧ t.cnt = s.cnt ∧ t.buf = s.buf ∧ t.elapsed = s.elapsed ∧ t.slp = s.slp ∧
    t.timeout = s.timeout ∧ t.txStream = s.txStream ∧ t.rxTaken = s.rxTaken ∧
    t.params = s.params ∧ t.script = s.script ∧ t.tick = s.tick ∧
    (t.st = s.st ∨ (s.st = .idle ∧ t.st = .send))

/-! ### The Command Encoder -/

/-- `SEND.READ`, `SEND.RESET` and `SEND.ABCOFF`, a byte before the last: `CMDROM[c][TXI]` is handed over and `TXI` counts; nothing
else changes (40_command_encoder.md R62). -/
def Obligations.SendByte : Prop :=
  ∀ (c : Command) (s : State), s.st = .send → s.opr.command = c → s.now.txFail = false → s.now.txReady = true →
    s.txi.toNat < 8 →
    ∃ b, (cmdRom c).toBytes[s.txi.toNat]? = some b ∧
      exec c.instr s = .next { s with txStream := s.txStream ++ [b], txi := s.txi + 1 }

/-- `SEND.READ`, the ninth byte, 121: the reader is entered with `ELAPSED` 0, and nothing else changes (R62, R63). -/
def Obligations.SendReadLastByte : Prop :=
  ∀ s : State, s.st = .send → s.opr.isRead = true → s.now.txFail = false → s.now.txReady = true → s.txi = 8 →
    exec .sendRead s = .next { s with txStream := s.txStream ++ [121], txi := 0, elapsed := 0, st := .wait }

/-- `SEND.RESET` and `SEND.ABCOFF`, the ninth byte, 120 and 134: the operation ends with `OK` (R62, R64, R65, 60_exceptions.md R96). -/
def Obligations.SendOnlyLastByte : Prop :=
  ∀ s : State, s.st = .send → s.now.txFail = false → s.now.txReady = true → s.txi = 8 →
    (s.opr = .resetSensor → exec .sendReset s = .next { s with
      txStream := s.txStream ++ [120], status := .ok, done := true, nrecv := s.cnt, buf := Frame.zero,
      cnt := 0, txi := 0, elapsed := 0, slp := 0, st := .idle }) ∧
    (s.opr = .disableAbc → exec .sendAbcoff s = .next { s with
      txStream := s.txStream ++ [134], status := .ok, done := true, nrecv := s.cnt, buf := Frame.zero,
      cnt := 0, txi := 0, elapsed := 0, slp := 0, st := .idle })

/-- A write failure ends the operation with `XPORT_WR_FAIL`, whatever `tx_ready` is, and hands nothing over (R62, R98). -/
def Obligations.SendWriteFailure : Prop :=
  ∀ (c : Command) (s : State), s.st = .send → s.opr.command = c → s.now.txFail = true →
    exec c.instr s = .next { s with
      status := .xportWrFail, done := true, nrecv := s.cnt, buf := Frame.zero,
      cnt := 0, txi := 0, elapsed := 0, slp := 0, st := .idle }

/-- A transport that neither accepts nor fails leaves the block as it is, with no limit (R62, 70_reset_and_hazards.md R116). -/
def Obligations.SendStall : Prop :=
  ∀ (c : Command) (s : State), s.st = .send → s.opr.command = c → s.now.txFail = false → s.now.txReady = false →
    exec c.instr s = .next s

/-- The frame of the three `SEND` forms: `OPR`, `TMO`, `TIMEOUT`, the results of the decoder and the received bytes always stay;
while the command is not finished only `TXI` and the transmit stream change; on entering the reader `DONE`, `STATUS`, `NRECV`,
`BUF`, `CNT` and `SLP` stay (R62, R63, R96). -/
def Obligations.SendFrame : Prop :=
  ∀ (c : Command) (s t : State), exec c.instr s = .next t →
    t.opr = s.opr ∧ t.tmo = s.tmo ∧ t.timeout = s.timeout ∧ t.ppm = s.ppm ∧ t.ppmValid = s.ppmValid ∧
    t.temp = s.temp ∧ t.tempValid = s.tempValid ∧ t.ckRecv = s.ckRecv ∧ t.ckCalc = s.ckCalc ∧
    t.rxTaken = s.rxTaken ∧ t.params = s.params ∧ t.script = s.script ∧ t.tick = s.tick ∧
    (t.st = .send ∨ t.st = .wait ∨ t.st = .idle) ∧
    (t.st = .send → t = { s with txi := t.txi, txStream := t.txStream }) ∧
    (t.st = .wait → t.done = s.done ∧ t.status = s.status ∧ t.nrecv = s.nrecv ∧ t.buf = s.buf ∧
      t.cnt = s.cnt ∧ t.slp = s.slp)

/-- The primitives are not issued on their own (00_scope.md R2): outside its phase a `SEND` form or a `DECODE` is refused by
name. The refusal is the model's choice (log 6). -/
def Obligations.PrimitivesOutsideTheirPhase : Prop :=
  (∀ (c : Command) (s : State), s.st ≠ .send ∨ s.opr.command ≠ c →
    exec c.instr s = .refused .outsideItsPhase) ∧
  (∀ (f : Frame) (s : State), s.st ≠ .check → exec (.decode f) s = .refused .outsideItsPhase)

/-! ### The Frame Reader -/

/-- A `WAIT` tick with `ELAPSED > TMO` ends the operation with `READ_TIMEOUT` and the count of bytes, even if a byte is waiting
or the transport fails on that tick; nothing is popped (41_frame_reader.md R69, R74, R98). -/
def Obligations.WaitTimeout : Prop :=
  ∀ s : State, s.now.rst = false → s.st = .wait → s.tmo < s.elapsed →
    step s = .next (({ s with
      status := .readTimeout, done := true, nrecv := s.cnt, buf := Frame.zero,
      cnt := 0, txi := 0, elapsed := 0, slp := 0, st := .idle } : State).configure s.now).nextTick ∧
    s.outputs.rxPop = false

/-- A `WAIT` tick before the deadline with a read failure ends the operation with `XPORT_RD_FAIL`, even if a byte is waiting;
nothing is popped (R69, R98). -/
def Obligations.WaitReadFailure : Prop :=
  ∀ s : State, s.now.rst = false → s.st = .wait → s.elapsed ≤ s.tmo → s.now.rxFail = true →
    step s = .next (({ s with
      status := .xportRdFail, done := true, nrecv := s.cnt, buf := Frame.zero,
      cnt := 0, txi := 0, elapsed := 0, slp := 0, st := .idle } : State).configure s.now).nextTick ∧
    s.outputs.rxPop = false

/-- A `WAIT` tick before the deadline with a byte takes exactly that byte into `BUF[CNT]`, counts it and the tick, and goes to
`CHECK` with the ninth byte; every other entry of the buffer stays (R69; `ELAPSED = TMO` is still before the deadline). -/
def Obligations.WaitByte : Prop :=
  ∀ s : State, s.now.rst = false → s.st = .wait → s.elapsed ≤ s.tmo → s.now.rxFail = false → s.now.rxAvail = true →
    s.cnt.toNat ≤ 8 →
    ∃ buf : Frame,
      step s = .next (({ s with
        buf := buf, rxTaken := s.rxTaken ++ [s.now.rxData], cnt := s.cnt + 1,
        elapsed := min (s.elapsed + 1) (2 ^ (s.params.tw + 1) - 1),
        st := if s.cnt = 8 then .check else .wait } : State).configure s.now).nextTick ∧
      (∀ i < 9, buf.get? i = if i = s.cnt.toNat then some s.now.rxData else s.buf.get? i) ∧
      s.outputs.rxPop = true

/-- A `WAIT` tick before the deadline without a byte goes to sleep for `POLL_TICKS` ticks, or polls again when that is 0 (R69). -/
def Obligations.WaitNoByte : Prop :=
  ∀ s : State, s.now.rst = false → s.st = .wait → s.elapsed ≤ s.tmo → s.now.rxFail = false → s.now.rxAvail = false →
    (0 < s.params.pollTicks →
      step s = .next (({ s with
        elapsed := min (s.elapsed + 1) (2 ^ (s.params.tw + 1) - 1), slp := s.params.pollTicks,
        st := .sleep } : State).configure s.now).nextTick) ∧
    (s.params.pollTicks = 0 →
      step s = .next (({ s with
        elapsed := min (s.elapsed + 1) (2 ^ (s.params.tw + 1) - 1) } : State).configure s.now).nextTick)

/-- A `SLEEP` tick counts the time and the pause, and the pause ends when one tick of it was left; nothing is pushed or popped,
whatever the ports say and whatever the deadline is (R70). -/
def Obligations.SleepTick : Prop :=
  ∀ s : State, s.now.rst = false → s.st = .sleep → 1 ≤ s.slp →
    step s = .next (({ s with
      elapsed := min (s.elapsed + 1) (2 ^ (s.params.tw + 1) - 1), slp := s.slp - 1,
      st := if s.slp = 1 then .wait else .sleep } : State).configure s.now).nextTick ∧
    s.outputs.txPush = false ∧ s.outputs.rxPop = false

/-- The reader ends: from its entry it is left within `TMO + 2 + POLL_TICKS` ticks, that is on a tick `k ≤ TMO + 1 + POLL_TICKS`, for
every behaviour of the environment and the host (R72 c). -/
def Obligations.ReaderBounded : Prop :=
  ∀ s : State, s.Inv → s.st = .wait → s.elapsed = 0 →
    ∃ (n : Nat) (t : State), n ≤ s.readerBound ∧ ticks n s = .next t ∧ ¬ t.InReader

/-! ### The Frame Validator and Decoder -/

/-- The calculated checksum is the source's formula bit by bit: the sum of bytes 1 to 7 on 11 bits, complemented, masked to 8
bits, then incremented on 9 bits; it is 256 less the sum modulo 256, and so 1 to 256 (42_validator_decoder.md R78, R82). -/
def Obligations.CalculatedChecksum : Prop :=
  ∀ f : Frame,
    f.calculated =
      ((~~~(f.b1.setWidth 11 + f.b2.setWidth 11 + f.b3.setWidth 11 + f.b4.setWidth 11 + f.b5.setWidth 11 +
        f.b6.setWidth 11 + f.b7.setWidth 11) &&& 0xFF).setWidth 9 + 1 : BitVec 9) ∧
    f.calculated.toNat = 256 - f.payloadSum % 256 ∧ f.payloadSum ≤ 1785

/-- `DECODE` in closed form: `OK` exactly when the marker is 0xFF and the sum of bytes 1 to 8 is 0 modulo 256 and, with
`CKSUM_WRAP = 0`, byte 8 is not 0; otherwise `BAD_MARKER` for a wrong marker and `BAD_CHECKSUM` with both values for the rest (R80). -/
def Obligations.DecodeClosedForm : Prop :=
  ∀ (wrap : Bool) (f : Frame),
    f.reading wrap =
      if f.b0 ≠ 0xFF then .badMarker
      else if (f.payloadSum + f.b8.toNat) % 256 = 0 ∧ (wrap = false → f.b8 ≠ 0) then .ok f.ppm f.temperature
      else .badChecksum f.b8 f.calculated

/-- The marker is tested first: the result is `BAD_MARKER` exactly when byte 0 is not 0xFF, whether or not the checksum matches
(R77). -/
def Obligations.MarkerFirst : Prop :=
  ∀ (wrap : Bool) (f : Frame), f.reading wrap = .badMarker ↔ f.b0 ≠ 0xFF

/-- What a frame that passes both tests is read as: `ppm` is byte 2 times 256 plus byte 3, the temperature is byte 4 minus 40,
signed; neither overflows, and no other byte and no range check has a part in it (R79). -/
def Obligations.Extraction : Prop :=
  ∀ (wrap : Bool) (f : Frame), f.b0 = 0xFF → f.checksumMatches wrap = true →
    ∃ (p : BitVec 16) (q : BitVec 9), f.reading wrap = .ok p q ∧
      p.toNat = f.b2.toNat * 256 + f.b3.toNat ∧ q.toInt = (f.b4.toNat : Int) - 40

/-- A frame built from a payload with its calculated checksum decodes to `OK` when the payload's sum is not 0 modulo 256; when
it is, no last byte makes a frame with that payload valid (R83, `CKSUM_WRAP = 0`). -/
def Obligations.RoundTrip : Prop :=
  ∀ f : Frame, f.b0 = 0xFF →
    (f.payloadSum % 256 ≠ 0 →
      ({ f with b8 := f.calculated.setWidth 8 } : Frame).reading false = .ok f.ppm f.temperature) ∧
    (f.payloadSum % 256 = 0 →
      ∀ b : Byte, ({ f with b8 := b } : Frame).reading false = .badChecksum b 256)

/-- Changing one byte of a valid frame is always noticed: as `BAD_CHECKSUM` at the indices 1 to 8, as `BAD_MARKER` at index 0; two
changes can cancel (R84). -/
def Obligations.SingleByteMutation : Prop :=
  (∀ (wrap : Bool) (f : Frame) (i : Nat) (b : Byte), f.reading wrap = .ok f.ppm f.temperature → i ≤ 8 →
    f.get? i ≠ some b →
    (f.set i b).reading wrap =
      if i = 0 then .badMarker else .badChecksum (f.set i b).b8 (f.set i b).calculated) ∧
  (∃ (f : Frame) (b c : Byte), f.reading false = .ok f.ppm f.temperature ∧ f.b2 ≠ b ∧ f.b3 ≠ c ∧
    ((f.set 2 b).set 3 c).reading false = .ok ((f.set 2 b).set 3 c).ppm f.temperature)

/-- The source's worked example (R85): with last byte 157 the reading is 800 ppm and 23 degrees, with any other `BAD_CHECKSUM`. -/
def Obligations.WorkedExample : Prop :=
  ∀ x : Byte,
    ({ b0 := 255, b1 := 1, b2 := 3, b3 := 32, b4 := 63, b5 := 0, b6 := 0, b7 := 0, b8 := x } : Frame).reading false =
      if x = 157 then .ok 800 23 else .badChecksum x 157

/-- `DECODE` of a valid frame completes in `CHECK`: `PPM` written, `TEMP` too for `READ_PPM_TEMP` alone, and the operation ended
with `OK` (R81, R96). -/
def Obligations.CheckValid : Prop :=
  ∀ (f : Frame) (s : State), s.st = .check → f.b0 = 0xFF → f.checksumMatches s.params.cksumWrap = true →
    exec (.decode f) s = .next { s with
      ppm := f.b2 ++ f.b3, ppmValid := true,
      temp := if s.opr = .readPpmTemp then f.b4.setWidth 9 - 40 else s.temp,
      tempValid := if s.opr = .readPpmTemp then true else s.tempValid,
      status := .ok, done := true, nrecv := s.cnt, buf := Frame.zero,
      cnt := 0, txi := 0, elapsed := 0, slp := 0, st := .idle }

/-- `DECODE` of a frame with a wrong marker ends the operation with `BAD_MARKER` and records nothing else (R81, R96). -/
def Obligations.CheckBadMarker : Prop :=
  ∀ (f : Frame) (s : State), s.st = .check → f.b0 ≠ 0xFF →
    exec (.decode f) s = .next { s with
      status := .badMarker, done := true, nrecv := s.cnt, buf := Frame.zero,
      cnt := 0, txi := 0, elapsed := 0, slp := 0, st := .idle }

/-- `DECODE` of a frame with a right marker and a wrong checksum ends the operation with `BAD_CHECKSUM` and records both checksums
(R81, R96). -/
def Obligations.CheckBadChecksum : Prop :=
  ∀ (f : Frame) (s : State), s.st = .check → f.b0 = 0xFF → f.checksumMatches s.params.cksumWrap = false →
    exec (.decode f) s = .next { s with
      ckRecv := f.b8, ckCalc := f.calculated,
      status := .badChecksum, done := true, nrecv := s.cnt, buf := Frame.zero,
      cnt := 0, txi := 0, elapsed := 0, slp := 0, st := .idle }

/-- The frame of `DECODE`: `OPR`, `TMO`, `TIMEOUT` and both streams stay; a failure leaves `PPM`, `TEMP` and their flags, an `OK` and a
`BAD_MARKER` leave the recorded checksums, and only `READ_PPM_TEMP` touches the temperature (R81, R96). -/
def Obligations.DecodeFrame : Prop :=
  ∀ (f : Frame) (s t : State), exec (.decode f) s = .next t →
    t.opr = s.opr ∧ t.tmo = s.tmo ∧ t.timeout = s.timeout ∧ t.txStream = s.txStream ∧ t.rxTaken = s.rxTaken ∧
    t.params = s.params ∧ t.script = s.script ∧ t.tick = s.tick ∧
    (t.status ≠ .ok → t.ppm = s.ppm ∧ t.ppmValid = s.ppmValid ∧ t.temp = s.temp ∧ t.tempValid = s.tempValid) ∧
    (t.status ≠ .badChecksum → t.ckRecv = s.ckRecv ∧ t.ckCalc = s.ckCalc) ∧
    (s.opr ≠ .readPpmTemp → t.temp = s.temp ∧ t.tempValid = s.tempValid)

/-! ### Endings, invariants, whole operations -/

/-- However an operation ends without reset, it ends as `complete` says: `DONE` set, a status of the six, `NRECV` the count before
the tick (9 from `CHECK`, 0 from `SEND` in a run), the buffer and every counter cleared, `OPR` and `TMO` kept, and the results of
the decoder kept unless the tick was `CHECK` (60_exceptions.md R96). -/
def Obligations.EveryEndingCompletes : Prop :=
  ∀ s t : State, step s = .next t → s.now.rst = false → s.st ≠ .idle → t.st = .idle →
    t.done = true ∧
    t.status ∈ [Status.ok, .readTimeout, .badMarker, .badChecksum, .xportWrFail, .xportRdFail] ∧
    t.nrecv = s.cnt ∧ t.buf = Frame.zero ∧ t.cnt = 0 ∧ t.txi = 0 ∧ t.elapsed = 0 ∧ t.slp = 0 ∧
    t.opr = s.opr ∧ t.tmo = s.tmo ∧
    t.timeout = (if s.now.cfgWe then s.now.cfgTimeout % 2 ^ s.params.tw else s.timeout) ∧
    (s.st ≠ .check → t.ppm = s.ppm ∧ t.ppmValid = s.ppmValid ∧ t.temp = s.temp ∧
      t.tempValid = s.tempValid ∧ t.ckRecv = s.ckRecv ∧ t.ckCalc = s.ckCalc) ∧
    (s.Inv → (s.st = .check → t.nrecv = 9) ∧ (s.st = .send → t.nrecv = 0))

/-- The invariants hold after reset, for every legal configuration (10_state.md R38, 70_reset_and_hazards.md R110). -/
def Obligations.ResetInv : Prop :=
  (∀ p : Params, p.wf → (State.resetWith p).Inv ∧ (State.resetWith p).ResultInv ∧ (State.resetWith p).StreamInv ∧
    (State.resetWith p).TimerInv) ∧
  State.reset.Inv

/-- Every tick keeps the table of invariants of R38 and the widths of the counters, for every input. -/
def Obligations.StepKeepsInv : Prop :=
  ∀ s t : State, s.Inv → step s = .next t → t.Inv

/-- Every tick keeps what the registers say after each outcome (10_state.md R24, R27 to R31; 60_exceptions.md R95). -/
def Obligations.StepKeepsResultInv : Prop :=
  ∀ s t : State, s.Inv → s.ResultInv → step s = .next t → t.ResultInv

/-- Every tick keeps what the two streams hold: the bytes pushed in an operation are its command's first bytes, in order (R66),
the reader is entered with the whole command sent (20_memory.md R47 b), and the buffer holds the popped bytes in stream
order (R71; the streams are the model's record, log 4). -/
def Obligations.StepKeepsStreamInv : Prop :=
  ∀ s t : State, s.Inv → s.StreamInv → step s = .next t → t.StreamInv

/-- Every tick keeps the reader's clock ahead of its byte count; so with `TMO < 8` no frame is ever complete (R72 e, R118). -/
def Obligations.StepKeepsTimerInv : Prop :=
  (∀ s t : State, s.Inv → s.TimerInv → step s = .next t → t.TimerInv) ∧
  (∀ s t : State, s.Inv → s.TimerInv → step s = .next t → s.tmo < 8 → s.st ≠ .idle → t.st ≠ .check)

/-- The block never stops: in a state of the invariant every tick answers a next state, whatever the inputs are (00_scope.md R12,
R13: no failure stops the block). -/
def Obligations.NeverStops : Prop :=
  ∀ s : State, s.Inv → ∃ t : State, step s = .next t

/-- The sequencer makes the transitions of 10_state.md R18 and no other; reset leads to `IDLE` from everywhere (R109). -/
def Obligations.Transitions : Prop :=
  ∀ s t : State, step s = .next t →
    if s.now.rst then t.st = .idle else s.st.Leads t.st

/-- The ports agree with the streams: a tick that answers hands over exactly the byte on `tx_data` when `tx_push` is 1, and
consumes exactly `rx_data` when `rx_pop` is 1, at most one each; a push needs `tx_ready`, a pop `rx_avail`, never both, and
`tx_data` is 0 without a push (10_state.md R15, 20_memory.md R45; the streams are the model's record, log 4). -/
def Obligations.PortsAndStreams : Prop :=
  (∀ s t : State, step s = .next t →
    t.txStream = s.txStream ++ (if s.outputs.txPush then [s.outputs.txData] else []) ∧
    t.rxTaken = s.rxTaken ++ (if s.outputs.rxPop then [s.now.rxData] else [])) ∧
  (∀ s : State,
    (s.outputs.txPush = true → s.now.txReady = true ∧ s.outputs.rxPop = false) ∧
    (s.outputs.rxPop = true → s.now.rxAvail = true) ∧
    (s.outputs.txPush = false → s.outputs.txData = 0))

/-- No tick changes the parameters, and each uses up one entry of the script (logs 1, 2: the model's own fields). -/
def Obligations.ParametersNeverChange : Prop :=
  ∀ s t : State, step s = .next t → t.params = s.params ∧ t.script = s.script.tail ∧ t.tick = s.tick + 1

/-- `FLAGS` packs `BUSY`, `DONE`, `PPM_VALID` and `TEMP_VALID` in bits 0 to 3, and register 7 reads it (10_state.md R32); the ports
`busy` and `done` show its bits 0 and 1 (R14, R22, R23). That they do so on a tick with `rst = 1` too is the model's inference
(log 17). -/
def Obligations.FlagsReadOut : Prop :=
  ∀ s : State,
    s.flags.getLsbD 0 = decide (s.st ≠ .idle) ∧ s.flags.getLsbD 1 = s.done ∧
    s.flags.getLsbD 2 = s.ppmValid ∧ s.flags.getLsbD 3 = s.tempValid ∧
    s.readReg 7 = some s.flags.toNat ∧ s.outputs.busy = s.flags.getLsbD 0 ∧ s.outputs.done = s.flags.getLsbD 1

/-- What the host reads under each number: 0 `TIMEOUT`, 1 the code of `STATUS`, one of the eight numbers of 30_encoding.md R57,
2 `PPM`, 3 the 9-bit pattern of `TEMP`, 4 `NRECV`, 5 `CK_RECV`, 6 `CK_CALC`, 7 `FLAGS`, each with its width, and in a run a value that
fits it (10_state.md R25 to R32); no other number exists (20_memory.md R40). -/
def Obligations.ReadOutWidths : Prop :=
  ∀ s : State,
    (s.readReg 0 = some s.timeout ∧ regWidth s.params 0 = some s.params.tw) ∧
    (s.readReg 1 = some (match s.status with
      | .none => 0
      | .ok => 1
      | .readTimeout => 2
      | .badMarker => 3
      | .badChecksum => 4
      | .xportWrFail => 5
      | .xportRdFail => 6
      | .illegalOp => 7) ∧ regWidth s.params 1 = some 4) ∧
    (s.readReg 2 = some s.ppm.toNat ∧ regWidth s.params 2 = some 16) ∧
    (s.readReg 3 = some (if 0 ≤ s.temp.toInt then s.temp.toInt.toNat else (512 + s.temp.toInt).toNat) ∧
      regWidth s.params 3 = some 9) ∧
    (s.readReg 4 = some s.nrecv.toNat ∧ regWidth s.params 4 = some 4) ∧
    (s.readReg 5 = some s.ckRecv.toNat ∧ regWidth s.params 5 = some 8) ∧
    (s.readReg 6 = some s.ckCalc.toNat ∧ regWidth s.params 6 = some 9) ∧
    (s.readReg 7 = some ((if s.st ≠ .idle then 1 else 0) + (if s.done then 2 else 0) +
      (if s.ppmValid then 4 else 0) + (if s.tempValid then 8 else 0)) ∧ regWidth s.params 7 = some 4) ∧
    (∀ n, 8 ≤ n → s.readReg n = none ∧ regWidth s.params n = none) ∧
    (s.Inv → ∀ n ≤ 7, ∃ v w, s.readReg n = some v ∧ regWidth s.params n = some w ∧ v < 2 ^ w)

/-- A send-only operation with a transport that accepts every byte takes ten ticks: it hands over exactly its command's nine
bytes, takes none, and ends in `IDLE` with `OK` (70_reset_and_hazards.md R125; 43_composite_operations.md R92, R93). -/
def Obligations.SendOnlyOperation : Prop :=
  ∀ (s : State) (op : HostOp) (a : Inputs) (sends rest : List Inputs),
    s.Inv → s.st = .idle → op.isRead = false → s.script = a :: (sends ++ rest) →
    a.rst = false → a.start = true → a.op = op.code.setWidth 3 →
    sends.length = 9 → (∀ i ∈ sends, i.rst = false ∧ i.txFail = false ∧ i.txReady = true) →
    ∃ t : State, ticks 10 s = .next t ∧
      t.st = .idle ∧ t.done = true ∧ t.status = .ok ∧ t.opr = op ∧ t.NoResults ∧ t.script = rest ∧
      t.txStream = s.txStream ++ (cmdRom op.command).toBytes ∧ t.rxTaken = s.rxTaken

/-- A read operation with a transport that accepts every byte and has all nine answer bytes ready, and a timeout of at least 8,
takes twenty ticks: it hands over exactly the Read command, takes exactly the nine bytes, and ends in `IDLE` with what
`DECODE` says of them (R125; 43_composite_operations.md R90, R91; 42_validator_decoder.md R81). -/
def Obligations.ReadOperation : Prop :=
  ∀ (s : State) (op : HostOp) (f : Frame) (a z : Inputs) (sends pops rest : List Inputs),
    s.Inv → s.st = .idle → op.isRead = true → 8 ≤ s.timeout →
    s.script = a :: (sends ++ (pops ++ z :: rest)) →
    a.rst = false → a.start = true → a.op = op.code.setWidth 3 →
    sends.length = 9 → (∀ i ∈ sends, i.rst = false ∧ i.txFail = false ∧ i.txReady = true) →
    pops.map (·.rxData) = f.toBytes → (∀ i ∈ pops, i.rst = false ∧ i.rxFail = false ∧ i.rxAvail = true) →
    z.rst = false →
    ∃ t : State, ticks 20 s = .next t ∧
      t.st = .idle ∧ t.done = true ∧ t.opr = op ∧ t.nrecv = 9 ∧ t.script = rest ∧
      t.txStream = s.txStream ++ (cmdRom .read).toBytes ∧ t.rxTaken = s.rxTaken ++ f.toBytes ∧
      match f.reading s.params.cksumWrap with
      | .ok p q =>
        t.status = .ok ∧ t.ppm = p ∧ t.ppmValid = true ∧ t.ckRecv = 0 ∧ t.ckCalc = 0 ∧
        t.temp = (if op = .readPpmTemp then q else 0) ∧ t.tempValid = decide (op = .readPpmTemp)
      | .badMarker =>
        t.status = .badMarker ∧ t.ppm = 0 ∧ t.ppmValid = false ∧ t.temp = 0 ∧ t.tempValid = false ∧
        t.ckRecv = 0 ∧ t.ckCalc = 0
      | .badChecksum r k =>
        t.status = .badChecksum ∧ t.ppm = 0 ∧ t.ppmValid = false ∧ t.temp = 0 ∧ t.tempValid = false ∧
        t.ckRecv = r ∧ t.ckCalc = k

/-- With a transport that keeps its obligations (10_state.md R15), bytes are neither lost, nor repeated, nor reordered, on any
tick, reset included: what was popped followed by what is queued is what it was, followed by what arrived; and the block takes
one byte at most, leaving the rest where it is (20_memory.md R45 a, R46, 70_reset_and_hazards.md R113, R114; log 3). -/
def Obligations.QueueConserved : Prop :=
  ∀ (b c : Bench) (bytes : List Byte) (i : Inputs), b.tick bytes i = .next c →
    c.block.rxTaken ++ c.transport.queue = b.block.rxTaken ++ (b.transport.queue ++ bytes) ∧
    (c.transport.queue = b.transport.queue ++ bytes ∨
      ∃ x, x :: c.transport.queue = b.transport.queue ++ bytes ∧ c.block.rxTaken = b.block.rxTaken ++ [x])

/-- The numbers behind the names: `STATUS` (30_encoding.md R57), `ST` (10_state.md R18) and `OPR` (10_state.md R19, 30_encoding.md R56). -/
def Obligations.CodeNumbers : Prop :=
  (Status.none.code = 0 ∧ Status.ok.code = 1 ∧ Status.readTimeout.code = 2 ∧ Status.badMarker.code = 3 ∧
    Status.badChecksum.code = 4 ∧ Status.xportWrFail.code = 5 ∧ Status.xportRdFail.code = 6 ∧
    Status.illegalOp.code = 7) ∧
  (Phase.idle.code = 0 ∧ Phase.send.code = 1 ∧ Phase.wait.code = 2 ∧ Phase.sleep.code = 3 ∧ Phase.check.code = 4) ∧
  (HostOp.readPpm.code = 0 ∧ HostOp.readPpmTemp.code = 1 ∧ HostOp.resetSensor.code = 2 ∧ HostOp.disableAbc.code = 3)
end

