-- ==== Sys2Proof/Laws/Frame.lean ====
section
/-!
SUPPORT. The small lemmas of a frame: its bytes, its word, its entries.
-/
namespace Sys2Proof

@[simp] theorem Frame.ofBytes_toBytes (f : Frame) : Frame.ofBytes f.toBytes = some f := rfl

@[simp] theorem Frame.length_toBytes (f : Frame) : f.toBytes.length = 9 := rfl

theorem Frame.ofBytes_eq_some {bytes : List Byte} {f : Frame} (h : Frame.ofBytes bytes = some f) :
    f.toBytes = bytes := by
  unfold Frame.ofBytes at h
  split at h
  · cases h; rfl
  · cases h

/-- The entries of a frame are its bytes in index order (R10). -/
theorem Frame.get?_eq (f : Frame) (i : Nat) : f.get? i = f.toBytes[i]? := by
  match i with
  | 0 | 1 | 2 | 3 | 4 | 5 | 6 | 7 | 8 => rfl
  | n + 9 => exact (List.getElem?_eq_none (by simp)).symm

theorem Frame.get?_lt {f : Frame} {i : Nat} (h : i ≤ 8) : ∃ b, f.get? i = some b := by
  rw [Frame.get?_eq]
  exact ⟨_, List.getElem?_eq_getElem (by simp only [Frame.length_toBytes]; omega)⟩

/-- Storing entry `i` is storing byte `i`. -/
theorem Frame.toBytes_set (f : Frame) (i : Nat) (b : Byte) : (f.set i b).toBytes = f.toBytes.set i b := by
  match i with
  | 0 | 1 | 2 | 3 | 4 | 5 | 6 | 7 | 8 => rfl
  | n + 9 => exact (List.set_eq_of_length_le (by simp)).symm

theorem Frame.get?_set (f : Frame) (i j : Nat) (b : Byte) :
    (f.set i b).get? j = if i = j then (f.get? j).map (fun _ => b) else f.get? j := by
  rw [Frame.get?_eq, Frame.toBytes_set, List.getElem?_set, Frame.get?_eq]
  split
  · next h =>
    subst h
    by_cases hi : i < f.toBytes.length
    · rw [if_pos hi, List.getElem?_eq_getElem hi]; rfl
    · rw [if_neg hi, List.getElem?_eq_none (by omega)]; rfl
  · rfl

@[simp] theorem Frame.get?_zero {i : Nat} (h : i < 9) : Frame.zero.get? i = some 0 := by
  interval_cases i <;> rfl

/-- A frame is its entries. -/
theorem Frame.ext_get? {f g : Frame} (h : ∀ i < 9, f.get? i = g.get? i) : f = g := by
  have e : f.toBytes = g.toBytes := by
    apply List.ext_getElem?
    intro i
    by_cases hi : i < 9
    · rw [← Frame.get?_eq, ← Frame.get?_eq, h i hi]
    · rw [List.getElem?_eq_none, List.getElem?_eq_none] <;> simp only [Frame.length_toBytes] <;> omega
  have := congrArg Frame.ofBytes e
  simpa using this

/-- Every byte of a command constant exists. -/
theorem cmdByte_of_le {c : Command} {i : Nat} (h : i ≤ 8) : ∃ b, cmdByte c i = some b :=
  Frame.get?_lt h

theorem cmdByte_eq (c : Command) (i : Nat) : cmdByte c i = (cmdRom c).toBytes[i]? :=
  Frame.get?_eq _ _

end Sys2Proof
end

