-- ==== Sys2Proof/Laws/PerInstr.lean ====
section
/-!
SUPPORT. Statements per instruction, about the instruction as a term.
-/
namespace Sys2Proof.Laws.EncodedLength

/-- The encoder gives a well-formed instruction the number of bytes of its format (30_encoding.md R52, R56). -/
def Statement (i : Instr) : Prop := i.wf = true ∧ (encode i).length = i.format.byteLength

theorem readPpm : Statement .readPpm := ⟨rfl, rfl⟩
theorem readPpmTemp : Statement .readPpmTemp := ⟨rfl, rfl⟩
theorem resetSensor : Statement .resetSensor := ⟨rfl, rfl⟩
theorem disableAbc : Statement .disableAbc := ⟨rfl, rfl⟩
theorem sendRead : Statement .sendRead := ⟨rfl, rfl⟩
theorem sendReset : Statement .sendReset := ⟨rfl, rfl⟩
theorem sendAbcoff : Statement .sendAbcoff := ⟨rfl, rfl⟩
theorem decode (f : Frame) : Statement (.decode f) := ⟨rfl, rfl⟩

end Sys2Proof.Laws.EncodedLength
end

