-- ==== Sys2Proof/Laws/Run.lean ====
section
/-!
SUPPORT. Runs: one tick after another, two runs in a row, and the host's own run of the machine.
-/
namespace Sys2Proof.Machine

@[simp] theorem ticks_zero (s : State) : ticks 0 s = .next s := rfl

theorem ticks_succ {n : Nat} {s t : State} (h : step s = .next t) : ticks (n + 1) s = ticks n t := by
  rw [ticks, h]

theorem ticks_add {n k : Nat} {s t : State} (h : ticks n s = .next t) : ticks (n + k) s = ticks k t := by
  induction n generalizing s with
  | zero => cases h; rw [Nat.zero_add]
  | succ n ih =>
    rw [ticks] at h
    rw [Nat.add_right_comm, ticks]
    split at h
    · next m hm => exact ih h
    · cases h
    · cases h

theorem run_unfold (M : Host.Core) (n : Nat) (s : M.State) :
    M.run (n + 1) s =
      match M.step s with
      | .next t => M.run n t
      | .fault r => .fault r
      | .refused r => .refused r := rfl

theorem core_run_eq_ticks (n : Nat) (s : State) : Sys2Proof.core.run n s = ticks n s := by
  induction n generalizing s with
  | zero => rfl
  | succ n ih =>
    refine (run_unfold Sys2Proof.core n s).trans ?_
    show _ = (match step s with
      | .next t => ticks n t
      | .fault r => .fault r
      | .refused r => .refused r)
    have e : Sys2Proof.core.step s = step s := rfl
    rw [e]
    cases step s with
    | next t => exact ih t
    | fault r => rfl
    | refused r => rfl

end Sys2Proof.Machine
end

