-- ==== Sys2Proof/Laws/State.lean ====
section
/-!
SUPPORT. What each named operation on the state leaves in each field: one lemma per field per operation, so that no proof
unfolds a record update.
-/
namespace Sys2Proof.Machine

variable (s : State)

/-! ### clearResults -/

@[simp] theorem State.clearResults_st : (s.clearResults).st = s.st := rfl
@[simp] theorem State.clearResults_opr : (s.clearResults).opr = s.opr := rfl
@[simp] theorem State.clearResults_txi : (s.clearResults).txi = s.txi := rfl
@[simp] theorem State.clearResults_cnt : (s.clearResults).cnt = s.cnt := rfl
@[simp] theorem State.clearResults_buf : (s.clearResults).buf = s.buf := rfl
@[simp] theorem State.clearResults_done : (s.clearResults).done = s.done := rfl
@[simp] theorem State.clearResults_ppmValid : (s.clearResults).ppmValid = false := rfl
@[simp] theorem State.clearResults_tempValid : (s.clearResults).tempValid = false := rfl
@[simp] theorem State.clearResults_timeout : (s.clearResults).timeout = s.timeout := rfl
@[simp] theorem State.clearResults_status : (s.clearResults).status = s.status := rfl
@[simp] theorem State.clearResults_ppm : (s.clearResults).ppm = 0 := rfl
@[simp] theorem State.clearResults_temp : (s.clearResults).temp = 0 := rfl
@[simp] theorem State.clearResults_nrecv : (s.clearResults).nrecv = 0 := rfl
@[simp] theorem State.clearResults_ckRecv : (s.clearResults).ckRecv = 0 := rfl
@[simp] theorem State.clearResults_ckCalc : (s.clearResults).ckCalc = 0 := rfl
@[simp] theorem State.clearResults_elapsed : (s.clearResults).elapsed = s.elapsed := rfl
@[simp] theorem State.clearResults_tmo : (s.clearResults).tmo = s.tmo := rfl
@[simp] theorem State.clearResults_slp : (s.clearResults).slp = s.slp := rfl
@[simp] theorem State.clearResults_params : (s.clearResults).params = s.params := rfl
@[simp] theorem State.clearResults_script : (s.clearResults).script = s.script := rfl
@[simp] theorem State.clearResults_tick : (s.clearResults).tick = s.tick := rfl
@[simp] theorem State.clearResults_txStream : (s.clearResults).txStream = s.txStream := rfl
@[simp] theorem State.clearResults_rxTaken : (s.clearResults).rxTaken = s.rxTaken := rfl

/-! ### acceptStart -/

@[simp] theorem State.acceptStart_st (op : HostOp) : (s.acceptStart op).st = .send := rfl
@[simp] theorem State.acceptStart_opr (op : HostOp) : (s.acceptStart op).opr = op := rfl
@[simp] theorem State.acceptStart_txi (op : HostOp) : (s.acceptStart op).txi = s.txi := rfl
@[simp] theorem State.acceptStart_cnt (op : HostOp) : (s.acceptStart op).cnt = s.cnt := rfl
@[simp] theorem State.acceptStart_buf (op : HostOp) : (s.acceptStart op).buf = s.buf := rfl
@[simp] theorem State.acceptStart_done (op : HostOp) : (s.acceptStart op).done = false := rfl
@[simp] theorem State.acceptStart_ppmValid (op : HostOp) : (s.acceptStart op).ppmValid = false := rfl
@[simp] theorem State.acceptStart_tempValid (op : HostOp) : (s.acceptStart op).tempValid = false := rfl
@[simp] theorem State.acceptStart_timeout (op : HostOp) : (s.acceptStart op).timeout = s.timeout := rfl
@[simp] theorem State.acceptStart_status (op : HostOp) : (s.acceptStart op).status = .none := rfl
@[simp] theorem State.acceptStart_ppm (op : HostOp) : (s.acceptStart op).ppm = 0 := rfl
@[simp] theorem State.acceptStart_temp (op : HostOp) : (s.acceptStart op).temp = 0 := rfl
@[simp] theorem State.acceptStart_nrecv (op : HostOp) : (s.acceptStart op).nrecv = 0 := rfl
@[simp] theorem State.acceptStart_ckRecv (op : HostOp) : (s.acceptStart op).ckRecv = 0 := rfl
@[simp] theorem State.acceptStart_ckCalc (op : HostOp) : (s.acceptStart op).ckCalc = 0 := rfl
@[simp] theorem State.acceptStart_elapsed (op : HostOp) : (s.acceptStart op).elapsed = s.elapsed := rfl
@[simp] theorem State.acceptStart_tmo (op : HostOp) : (s.acceptStart op).tmo = s.timeout := rfl
@[simp] theorem State.acceptStart_slp (op : HostOp) : (s.acceptStart op).slp = s.slp := rfl
@[simp] theorem State.acceptStart_params (op : HostOp) : (s.acceptStart op).params = s.params := rfl
@[simp] theorem State.acceptStart_script (op : HostOp) : (s.acceptStart op).script = s.script := rfl
@[simp] theorem State.acceptStart_tick (op : HostOp) : (s.acceptStart op).tick = s.tick := rfl
@[simp] theorem State.acceptStart_txStream (op : HostOp) : (s.acceptStart op).txStream = s.txStream := rfl
@[simp] theorem State.acceptStart_rxTaken (op : HostOp) : (s.acceptStart op).rxTaken = s.rxTaken := rfl

/-! ### refuseStart -/

@[simp] theorem State.refuseStart_st : (s.refuseStart).st = s.st := rfl
@[simp] theorem State.refuseStart_opr : (s.refuseStart).opr = s.opr := rfl
@[simp] theorem State.refuseStart_txi : (s.refuseStart).txi = s.txi := rfl
@[simp] theorem State.refuseStart_cnt : (s.refuseStart).cnt = s.cnt := rfl
@[simp] theorem State.refuseStart_buf : (s.refuseStart).buf = s.buf := rfl
@[simp] theorem State.refuseStart_done : (s.refuseStart).done = true := rfl
@[simp] theorem State.refuseStart_ppmValid : (s.refuseStart).ppmValid = false := rfl
@[simp] theorem State.refuseStart_tempValid : (s.refuseStart).tempValid = false := rfl
@[simp] theorem State.refuseStart_timeout : (s.refuseStart).timeout = s.timeout := rfl
@[simp] theorem State.refuseStart_status : (s.refuseStart).status = .illegalOp := rfl
@[simp] theorem State.refuseStart_ppm : (s.refuseStart).ppm = 0 := rfl
@[simp] theorem State.refuseStart_temp : (s.refuseStart).temp = 0 := rfl
@[simp] theorem State.refuseStart_nrecv : (s.refuseStart).nrecv = 0 := rfl
@[simp] theorem State.refuseStart_ckRecv : (s.refuseStart).ckRecv = 0 := rfl
@[simp] theorem State.refuseStart_ckCalc : (s.refuseStart).ckCalc = 0 := rfl
@[simp] theorem State.refuseStart_elapsed : (s.refuseStart).elapsed = s.elapsed := rfl
@[simp] theorem State.refuseStart_tmo : (s.refuseStart).tmo = s.tmo := rfl
@[simp] theorem State.refuseStart_slp : (s.refuseStart).slp = s.slp := rfl
@[simp] theorem State.refuseStart_params : (s.refuseStart).params = s.params := rfl
@[simp] theorem State.refuseStart_script : (s.refuseStart).script = s.script := rfl
@[simp] theorem State.refuseStart_tick : (s.refuseStart).tick = s.tick := rfl
@[simp] theorem State.refuseStart_txStream : (s.refuseStart).txStream = s.txStream := rfl
@[simp] theorem State.refuseStart_rxTaken : (s.refuseStart).rxTaken = s.rxTaken := rfl

/-! ### complete -/

@[simp] theorem State.complete_st (o : Status) : (s.complete o).st = .idle := rfl
@[simp] theorem State.complete_opr (o : Status) : (s.complete o).opr = s.opr := rfl
@[simp] theorem State.complete_txi (o : Status) : (s.complete o).txi = 0 := rfl
@[simp] theorem State.complete_cnt (o : Status) : (s.complete o).cnt = 0 := rfl
@[simp] theorem State.complete_buf (o : Status) : (s.complete o).buf = Frame.zero := rfl
@[simp] theorem State.complete_done (o : Status) : (s.complete o).done = true := rfl
@[simp] theorem State.complete_ppmValid (o : Status) : (s.complete o).ppmValid = s.ppmValid := rfl
@[simp] theorem State.complete_tempValid (o : Status) : (s.complete o).tempValid = s.tempValid := rfl
@[simp] theorem State.complete_timeout (o : Status) : (s.complete o).timeout = s.timeout := rfl
@[simp] theorem State.complete_status (o : Status) : (s.complete o).status = o := rfl
@[simp] theorem State.complete_ppm (o : Status) : (s.complete o).ppm = s.ppm := rfl
@[simp] theorem State.complete_temp (o : Status) : (s.complete o).temp = s.temp := rfl
@[simp] theorem State.complete_nrecv (o : Status) : (s.complete o).nrecv = s.cnt := rfl
@[simp] theorem State.complete_ckRecv (o : Status) : (s.complete o).ckRecv = s.ckRecv := rfl
@[simp] theorem State.complete_ckCalc (o : Status) : (s.complete o).ckCalc = s.ckCalc := rfl
@[simp] theorem State.complete_elapsed (o : Status) : (s.complete o).elapsed = 0 := rfl
@[simp] theorem State.complete_tmo (o : Status) : (s.complete o).tmo = s.tmo := rfl
@[simp] theorem State.complete_slp (o : Status) : (s.complete o).slp = 0 := rfl
@[simp] theorem State.complete_params (o : Status) : (s.complete o).params = s.params := rfl
@[simp] theorem State.complete_script (o : Status) : (s.complete o).script = s.script := rfl
@[simp] theorem State.complete_tick (o : Status) : (s.complete o).tick = s.tick := rfl
@[simp] theorem State.complete_txStream (o : Status) : (s.complete o).txStream = s.txStream := rfl
@[simp] theorem State.complete_rxTaken (o : Status) : (s.complete o).rxTaken = s.rxTaken := rfl

/-! ### txPush -/

@[simp] theorem State.txPush_st (b : Byte) : (s.txPush b).st = s.st := rfl
@[simp] theorem State.txPush_opr (b : Byte) : (s.txPush b).opr = s.opr := rfl
@[simp] theorem State.txPush_txi (b : Byte) : (s.txPush b).txi = s.txi := rfl
@[simp] theorem State.txPush_cnt (b : Byte) : (s.txPush b).cnt = s.cnt := rfl
@[simp] theorem State.txPush_buf (b : Byte) : (s.txPush b).buf = s.buf := rfl
@[simp] theorem State.txPush_done (b : Byte) : (s.txPush b).done = s.done := rfl
@[simp] theorem State.txPush_ppmValid (b : Byte) : (s.txPush b).ppmValid = s.ppmValid := rfl
@[simp] theorem State.txPush_tempValid (b : Byte) : (s.txPush b).tempValid = s.tempValid := rfl
@[simp] theorem State.txPush_timeout (b : Byte) : (s.txPush b).timeout = s.timeout := rfl
@[simp] theorem State.txPush_status (b : Byte) : (s.txPush b).status = s.status := rfl
@[simp] theorem State.txPush_ppm (b : Byte) : (s.txPush b).ppm = s.ppm := rfl
@[simp] theorem State.txPush_temp (b : Byte) : (s.txPush b).temp = s.temp := rfl
@[simp] theorem State.txPush_nrecv (b : Byte) : (s.txPush b).nrecv = s.nrecv := rfl
@[simp] theorem State.txPush_ckRecv (b : Byte) : (s.txPush b).ckRecv = s.ckRecv := rfl
@[simp] theorem State.txPush_ckCalc (b : Byte) : (s.txPush b).ckCalc = s.ckCalc := rfl
@[simp] theorem State.txPush_elapsed (b : Byte) : (s.txPush b).elapsed = s.elapsed := rfl
@[simp] theorem State.txPush_tmo (b : Byte) : (s.txPush b).tmo = s.tmo := rfl
@[simp] theorem State.txPush_slp (b : Byte) : (s.txPush b).slp = s.slp := rfl
@[simp] theorem State.txPush_params (b : Byte) : (s.txPush b).params = s.params := rfl
@[simp] theorem State.txPush_script (b : Byte) : (s.txPush b).script = s.script := rfl
@[simp] theorem State.txPush_tick (b : Byte) : (s.txPush b).tick = s.tick := rfl
@[simp] theorem State.txPush_txStream (b : Byte) : (s.txPush b).txStream = s.txStream ++ [b] := rfl
@[simp] theorem State.txPush_rxTaken (b : Byte) : (s.txPush b).rxTaken = s.rxTaken := rfl

/-! ### rxPop -/

@[simp] theorem State.rxPop_st (b : Byte) : (s.rxPop b).st = s.st := rfl
@[simp] theorem State.rxPop_opr (b : Byte) : (s.rxPop b).opr = s.opr := rfl
@[simp] theorem State.rxPop_txi (b : Byte) : (s.rxPop b).txi = s.txi := rfl
@[simp] theorem State.rxPop_cnt (b : Byte) : (s.rxPop b).cnt = s.cnt + 1 := rfl
@[simp] theorem State.rxPop_buf (b : Byte) : (s.rxPop b).buf = s.buf.set s.cnt.toNat b := rfl
@[simp] theorem State.rxPop_done (b : Byte) : (s.rxPop b).done = s.done := rfl
@[simp] theorem State.rxPop_ppmValid (b : Byte) : (s.rxPop b).ppmValid = s.ppmValid := rfl
@[simp] theorem State.rxPop_tempValid (b : Byte) : (s.rxPop b).tempValid = s.tempValid := rfl
@[simp] theorem State.rxPop_timeout (b : Byte) : (s.rxPop b).timeout = s.timeout := rfl
@[simp] theorem State.rxPop_status (b : Byte) : (s.rxPop b).status = s.status := rfl
@[simp] theorem State.rxPop_ppm (b : Byte) : (s.rxPop b).ppm = s.ppm := rfl
@[simp] theorem State.rxPop_temp (b : Byte) : (s.rxPop b).temp = s.temp := rfl
@[simp] theorem State.rxPop_nrecv (b : Byte) : (s.rxPop b).nrecv = s.nrecv := rfl
@[simp] theorem State.rxPop_ckRecv (b : Byte) : (s.rxPop b).ckRecv = s.ckRecv := rfl
@[simp] theorem State.rxPop_ckCalc (b : Byte) : (s.rxPop b).ckCalc = s.ckCalc := rfl
@[simp] theorem State.rxPop_elapsed (b : Byte) : (s.rxPop b).elapsed = s.elapsed := rfl
@[simp] theorem State.rxPop_tmo (b : Byte) : (s.rxPop b).tmo = s.tmo := rfl
@[simp] theorem State.rxPop_slp (b : Byte) : (s.rxPop b).slp = s.slp := rfl
@[simp] theorem State.rxPop_params (b : Byte) : (s.rxPop b).params = s.params := rfl
@[simp] theorem State.rxPop_script (b : Byte) : (s.rxPop b).script = s.script := rfl
@[simp] theorem State.rxPop_tick (b : Byte) : (s.rxPop b).tick = s.tick := rfl
@[simp] theorem State.rxPop_txStream (b : Byte) : (s.rxPop b).txStream = s.txStream := rfl
@[simp] theorem State.rxPop_rxTaken (b : Byte) : (s.rxPop b).rxTaken = s.rxTaken ++ [b] := rfl

/-! ### enterReader -/

@[simp] theorem State.enterReader_st : (s.enterReader).st = .wait := rfl
@[simp] theorem State.enterReader_opr : (s.enterReader).opr = s.opr := rfl
@[simp] theorem State.enterReader_txi : (s.enterReader).txi = 0 := rfl
@[simp] theorem State.enterReader_cnt : (s.enterReader).cnt = s.cnt := rfl
@[simp] theorem State.enterReader_buf : (s.enterReader).buf = s.buf := rfl
@[simp] theorem State.enterReader_done : (s.enterReader).done = s.done := rfl
@[simp] theorem State.enterReader_ppmValid : (s.enterReader).ppmValid = s.ppmValid := rfl
@[simp] theorem State.enterReader_tempValid : (s.enterReader).tempValid = s.tempValid := rfl
@[simp] theorem State.enterReader_timeout : (s.enterReader).timeout = s.timeout := rfl
@[simp] theorem State.enterReader_status : (s.enterReader).status = s.status := rfl
@[simp] theorem State.enterReader_ppm : (s.enterReader).ppm = s.ppm := rfl
@[simp] theorem State.enterReader_temp : (s.enterReader).temp = s.temp := rfl
@[simp] theorem State.enterReader_nrecv : (s.enterReader).nrecv = s.nrecv := rfl
@[simp] theorem State.enterReader_ckRecv : (s.enterReader).ckRecv = s.ckRecv := rfl
@[simp] theorem State.enterReader_ckCalc : (s.enterReader).ckCalc = s.ckCalc := rfl
@[simp] theorem State.enterReader_elapsed : (s.enterReader).elapsed = 0 := rfl
@[simp] theorem State.enterReader_tmo : (s.enterReader).tmo = s.tmo := rfl
@[simp] theorem State.enterReader_slp : (s.enterReader).slp = s.slp := rfl
@[simp] theorem State.enterReader_params : (s.enterReader).params = s.params := rfl
@[simp] theorem State.enterReader_script : (s.enterReader).script = s.script := rfl
@[simp] theorem State.enterReader_tick : (s.enterReader).tick = s.tick := rfl
@[simp] theorem State.enterReader_txStream : (s.enterReader).txStream = s.txStream := rfl
@[simp] theorem State.enterReader_rxTaken : (s.enterReader).rxTaken = s.rxTaken := rfl

/-! ### nextCommandByte -/

@[simp] theorem State.nextCommandByte_st : (s.nextCommandByte).st = s.st := rfl
@[simp] theorem State.nextCommandByte_opr : (s.nextCommandByte).opr = s.opr := rfl
@[simp] theorem State.nextCommandByte_txi : (s.nextCommandByte).txi = s.txi + 1 := rfl
@[simp] theorem State.nextCommandByte_cnt : (s.nextCommandByte).cnt = s.cnt := rfl
@[simp] theorem State.nextCommandByte_buf : (s.nextCommandByte).buf = s.buf := rfl
@[simp] theorem State.nextCommandByte_done : (s.nextCommandByte).done = s.done := rfl
@[simp] theorem State.nextCommandByte_ppmValid : (s.nextCommandByte).ppmValid = s.ppmValid := rfl
@[simp] theorem State.nextCommandByte_tempValid : (s.nextCommandByte).tempValid = s.tempValid := rfl
@[simp] theorem State.nextCommandByte_timeout : (s.nextCommandByte).timeout = s.timeout := rfl
@[simp] theorem State.nextCommandByte_status : (s.nextCommandByte).status = s.status := rfl
@[simp] theorem State.nextCommandByte_ppm : (s.nextCommandByte).ppm = s.ppm := rfl
@[simp] theorem State.nextCommandByte_temp : (s.nextCommandByte).temp = s.temp := rfl
@[simp] theorem State.nextCommandByte_nrecv : (s.nextCommandByte).nrecv = s.nrecv := rfl
@[simp] theorem State.nextCommandByte_ckRecv : (s.nextCommandByte).ckRecv = s.ckRecv := rfl
@[simp] theorem State.nextCommandByte_ckCalc : (s.nextCommandByte).ckCalc = s.ckCalc := rfl
@[simp] theorem State.nextCommandByte_elapsed : (s.nextCommandByte).elapsed = s.elapsed := rfl
@[simp] theorem State.nextCommandByte_tmo : (s.nextCommandByte).tmo = s.tmo := rfl
@[simp] theorem State.nextCommandByte_slp : (s.nextCommandByte).slp = s.slp := rfl
@[simp] theorem State.nextCommandByte_params : (s.nextCommandByte).params = s.params := rfl
@[simp] theorem State.nextCommandByte_script : (s.nextCommandByte).script = s.script := rfl
@[simp] theorem State.nextCommandByte_tick : (s.nextCommandByte).tick = s.tick := rfl
@[simp] theorem State.nextCommandByte_txStream : (s.nextCommandByte).txStream = s.txStream := rfl
@[simp] theorem State.nextCommandByte_rxTaken : (s.nextCommandByte).rxTaken = s.rxTaken := rfl

/-! ### countTick -/

@[simp] theorem State.countTick_st : (s.countTick).st = s.st := rfl
@[simp] theorem State.countTick_opr : (s.countTick).opr = s.opr := rfl
@[simp] theorem State.countTick_txi : (s.countTick).txi = s.txi := rfl
@[simp] theorem State.countTick_cnt : (s.countTick).cnt = s.cnt := rfl
@[simp] theorem State.countTick_buf : (s.countTick).buf = s.buf := rfl
@[simp] theorem State.countTick_done : (s.countTick).done = s.done := rfl
@[simp] theorem State.countTick_ppmValid : (s.countTick).ppmValid = s.ppmValid := rfl
@[simp] theorem State.countTick_tempValid : (s.countTick).tempValid = s.tempValid := rfl
@[simp] theorem State.countTick_timeout : (s.countTick).timeout = s.timeout := rfl
@[simp] theorem State.countTick_status : (s.countTick).status = s.status := rfl
@[simp] theorem State.countTick_ppm : (s.countTick).ppm = s.ppm := rfl
@[simp] theorem State.countTick_temp : (s.countTick).temp = s.temp := rfl
@[simp] theorem State.countTick_nrecv : (s.countTick).nrecv = s.nrecv := rfl
@[simp] theorem State.countTick_ckRecv : (s.countTick).ckRecv = s.ckRecv := rfl
@[simp] theorem State.countTick_ckCalc : (s.countTick).ckCalc = s.ckCalc := rfl
@[simp] theorem State.countTick_elapsed : (s.countTick).elapsed = satElapsed s.params (s.elapsed + 1) := rfl
@[simp] theorem State.countTick_tmo : (s.countTick).tmo = s.tmo := rfl
@[simp] theorem State.countTick_slp : (s.countTick).slp = s.slp := rfl
@[simp] theorem State.countTick_params : (s.countTick).params = s.params := rfl
@[simp] theorem State.countTick_script : (s.countTick).script = s.script := rfl
@[simp] theorem State.countTick_tick : (s.countTick).tick = s.tick := rfl
@[simp] theorem State.countTick_txStream : (s.countTick).txStream = s.txStream := rfl
@[simp] theorem State.countTick_rxTaken : (s.countTick).rxTaken = s.rxTaken := rfl

/-! ### goto -/

@[simp] theorem State.goto_st (p : Phase) : (s.goto p).st = p := rfl
@[simp] theorem State.goto_opr (p : Phase) : (s.goto p).opr = s.opr := rfl
@[simp] theorem State.goto_txi (p : Phase) : (s.goto p).txi = s.txi := rfl
@[simp] theorem State.goto_cnt (p : Phase) : (s.goto p).cnt = s.cnt := rfl
@[simp] theorem State.goto_buf (p : Phase) : (s.goto p).buf = s.buf := rfl
@[simp] theorem State.goto_done (p : Phase) : (s.goto p).done = s.done := rfl
@[simp] theorem State.goto_ppmValid (p : Phase) : (s.goto p).ppmValid = s.ppmValid := rfl
@[simp] theorem State.goto_tempValid (p : Phase) : (s.goto p).tempValid = s.tempValid := rfl
@[simp] theorem State.goto_timeout (p : Phase) : (s.goto p).timeout = s.timeout := rfl
@[simp] theorem State.goto_status (p : Phase) : (s.goto p).status = s.status := rfl
@[simp] theorem State.goto_ppm (p : Phase) : (s.goto p).ppm = s.ppm := rfl
@[simp] theorem State.goto_temp (p : Phase) : (s.goto p).temp = s.temp := rfl
@[simp] theorem State.goto_nrecv (p : Phase) : (s.goto p).nrecv = s.nrecv := rfl
@[simp] theorem State.goto_ckRecv (p : Phase) : (s.goto p).ckRecv = s.ckRecv := rfl
@[simp] theorem State.goto_ckCalc (p : Phase) : (s.goto p).ckCalc = s.ckCalc := rfl
@[simp] theorem State.goto_elapsed (p : Phase) : (s.goto p).elapsed = s.elapsed := rfl
@[simp] theorem State.goto_tmo (p : Phase) : (s.goto p).tmo = s.tmo := rfl
@[simp] theorem State.goto_slp (p : Phase) : (s.goto p).slp = s.slp := rfl
@[simp] theorem State.goto_params (p : Phase) : (s.goto p).params = s.params := rfl
@[simp] theorem State.goto_script (p : Phase) : (s.goto p).script = s.script := rfl
@[simp] theorem State.goto_tick (p : Phase) : (s.goto p).tick = s.tick := rfl
@[simp] theorem State.goto_txStream (p : Phase) : (s.goto p).txStream = s.txStream := rfl
@[simp] theorem State.goto_rxTaken (p : Phase) : (s.goto p).rxTaken = s.rxTaken := rfl

/-! ### sleepOn -/

@[simp] theorem State.sleepOn_st : (s.sleepOn).st = if s.slp = 1 then .wait else .sleep := rfl
@[simp] theorem State.sleepOn_opr : (s.sleepOn).opr = s.opr := rfl
@[simp] theorem State.sleepOn_txi : (s.sleepOn).txi = s.txi := rfl
@[simp] theorem State.sleepOn_cnt : (s.sleepOn).cnt = s.cnt := rfl
@[simp] theorem State.sleepOn_buf : (s.sleepOn).buf = s.buf := rfl
@[simp] theorem State.sleepOn_done : (s.sleepOn).done = s.done := rfl
@[simp] theorem State.sleepOn_ppmValid : (s.sleepOn).ppmValid = s.ppmValid := rfl
@[simp] theorem State.sleepOn_tempValid : (s.sleepOn).tempValid = s.tempValid := rfl
@[simp] theorem State.sleepOn_timeout : (s.sleepOn).timeout = s.timeout := rfl
@[simp] theorem State.sleepOn_status : (s.sleepOn).status = s.status := rfl
@[simp] theorem State.sleepOn_ppm : (s.sleepOn).ppm = s.ppm := rfl
@[simp] theorem State.sleepOn_temp : (s.sleepOn).temp = s.temp := rfl
@[simp] theorem State.sleepOn_nrecv : (s.sleepOn).nrecv = s.nrecv := rfl
@[simp] theorem State.sleepOn_ckRecv : (s.sleepOn).ckRecv = s.ckRecv := rfl
@[simp] theorem State.sleepOn_ckCalc : (s.sleepOn).ckCalc = s.ckCalc := rfl
@[simp] theorem State.sleepOn_elapsed : (s.sleepOn).elapsed = s.elapsed := rfl
@[simp] theorem State.sleepOn_tmo : (s.sleepOn).tmo = s.tmo := rfl
@[simp] theorem State.sleepOn_slp : (s.sleepOn).slp = s.slp - 1 := rfl
@[simp] theorem State.sleepOn_params : (s.sleepOn).params = s.params := rfl
@[simp] theorem State.sleepOn_script : (s.sleepOn).script = s.script := rfl
@[simp] theorem State.sleepOn_tick : (s.sleepOn).tick = s.tick := rfl
@[simp] theorem State.sleepOn_txStream : (s.sleepOn).txStream = s.txStream := rfl
@[simp] theorem State.sleepOn_rxTaken : (s.sleepOn).rxTaken = s.rxTaken := rfl

/-! ### recordChecksum -/

@[simp] theorem State.recordChecksum_st (r : Byte) (k : BitVec 9) : (s.recordChecksum r k).st = s.st := rfl
@[simp] theorem State.recordChecksum_opr (r : Byte) (k : BitVec 9) : (s.recordChecksum r k).opr = s.opr := rfl
@[simp] theorem State.recordChecksum_txi (r : Byte) (k : BitVec 9) : (s.recordChecksum r k).txi = s.txi := rfl
@[simp] theorem State.recordChecksum_cnt (r : Byte) (k : BitVec 9) : (s.recordChecksum r k).cnt = s.cnt := rfl
@[simp] theorem State.recordChecksum_buf (r : Byte) (k : BitVec 9) : (s.recordChecksum r k).buf = s.buf := rfl
@[simp] theorem State.recordChecksum_done (r : Byte) (k : BitVec 9) : (s.recordChecksum r k).done = s.done := rfl
@[simp] theorem State.recordChecksum_ppmValid (r : Byte) (k : BitVec 9) : (s.recordChecksum r k).ppmValid = s.ppmValid := rfl
@[simp] theorem State.recordChecksum_tempValid (r : Byte) (k : BitVec 9) : (s.recordChecksum r k).tempValid = s.tempValid := rfl
@[simp] theorem State.recordChecksum_timeout (r : Byte) (k : BitVec 9) : (s.recordChecksum r k).timeout = s.timeout := rfl
@[simp] theorem State.recordChecksum_status (r : Byte) (k : BitVec 9) : (s.recordChecksum r k).status = s.status := rfl
@[simp] theorem State.recordChecksum_ppm (r : Byte) (k : BitVec 9) : (s.recordChecksum r k).ppm = s.ppm := rfl
@[simp] theorem State.recordChecksum_temp (r : Byte) (k : BitVec 9) : (s.recordChecksum r k).temp = s.temp := rfl
@[simp] theorem State.recordChecksum_nrecv (r : Byte) (k : BitVec 9) : (s.recordChecksum r k).nrecv = s.nrecv := rfl
@[simp] theorem State.recordChecksum_ckRecv (r : Byte) (k : BitVec 9) : (s.recordChecksum r k).ckRecv = r := rfl
@[simp] theorem State.recordChecksum_ckCalc (r : Byte) (k : BitVec 9) : (s.recordChecksum r k).ckCalc = k := rfl
@[simp] theorem State.recordChecksum_elapsed (r : Byte) (k : BitVec 9) : (s.recordChecksum r k).elapsed = s.elapsed := rfl
@[simp] theorem State.recordChecksum_tmo (r : Byte) (k : BitVec 9) : (s.recordChecksum r k).tmo = s.tmo := rfl
@[simp] theorem State.recordChecksum_slp (r : Byte) (k : BitVec 9) : (s.recordChecksum r k).slp = s.slp := rfl
@[simp] theorem State.recordChecksum_params (r : Byte) (k : BitVec 9) : (s.recordChecksum r k).params = s.params := rfl
@[simp] theorem State.recordChecksum_script (r : Byte) (k : BitVec 9) : (s.recordChecksum r k).script = s.script := rfl
@[simp] theorem State.recordChecksum_tick (r : Byte) (k : BitVec 9) : (s.recordChecksum r k).tick = s.tick := rfl
@[simp] theorem State.recordChecksum_txStream (r : Byte) (k : BitVec 9) : (s.recordChecksum r k).txStream = s.txStream := rfl
@[simp] theorem State.recordChecksum_rxTaken (r : Byte) (k : BitVec 9) : (s.recordChecksum r k).rxTaken = s.rxTaken := rfl

/-! ### configure -/

@[simp] theorem State.configure_st (i : Inputs) : (s.configure i).st = s.st := rfl
@[simp] theorem State.configure_opr (i : Inputs) : (s.configure i).opr = s.opr := rfl
@[simp] theorem State.configure_txi (i : Inputs) : (s.configure i).txi = s.txi := rfl
@[simp] theorem State.configure_cnt (i : Inputs) : (s.configure i).cnt = s.cnt := rfl
@[simp] theorem State.configure_buf (i : Inputs) : (s.configure i).buf = s.buf := rfl
@[simp] theorem State.configure_done (i : Inputs) : (s.configure i).done = s.done := rfl
@[simp] theorem State.configure_ppmValid (i : Inputs) : (s.configure i).ppmValid = s.ppmValid := rfl
@[simp] theorem State.configure_tempValid (i : Inputs) : (s.configure i).tempValid = s.tempValid := rfl
@[simp] theorem State.configure_timeout (i : Inputs) : (s.configure i).timeout = if i.cfgWe then cfgValue s.params i else s.timeout := rfl
@[simp] theorem State.configure_status (i : Inputs) : (s.configure i).status = s.status := rfl
@[simp] theorem State.configure_ppm (i : Inputs) : (s.configure i).ppm = s.ppm := rfl
@[simp] theorem State.configure_temp (i : Inputs) : (s.configure i).temp = s.temp := rfl
@[simp] theorem State.configure_nrecv (i : Inputs) : (s.configure i).nrecv = s.nrecv := rfl
@[simp] theorem State.configure_ckRecv (i : Inputs) : (s.configure i).ckRecv = s.ckRecv := rfl
@[simp] theorem State.configure_ckCalc (i : Inputs) : (s.configure i).ckCalc = s.ckCalc := rfl
@[simp] theorem State.configure_elapsed (i : Inputs) : (s.configure i).elapsed = s.elapsed := rfl
@[simp] theorem State.configure_tmo (i : Inputs) : (s.configure i).tmo = s.tmo := rfl
@[simp] theorem State.configure_slp (i : Inputs) : (s.configure i).slp = s.slp := rfl
@[simp] theorem State.configure_params (i : Inputs) : (s.configure i).params = s.params := rfl
@[simp] theorem State.configure_script (i : Inputs) : (s.configure i).script = s.script := rfl
@[simp] theorem State.configure_tick (i : Inputs) : (s.configure i).tick = s.tick := rfl
@[simp] theorem State.configure_txStream (i : Inputs) : (s.configure i).txStream = s.txStream := rfl
@[simp] theorem State.configure_rxTaken (i : Inputs) : (s.configure i).rxTaken = s.rxTaken := rfl

/-! ### nextTick -/

@[simp] theorem State.nextTick_st : (s.nextTick).st = s.st := rfl
@[simp] theorem State.nextTick_opr : (s.nextTick).opr = s.opr := rfl
@[simp] theorem State.nextTick_txi : (s.nextTick).txi = s.txi := rfl
@[simp] theorem State.nextTick_cnt : (s.nextTick).cnt = s.cnt := rfl
@[simp] theorem State.nextTick_buf : (s.nextTick).buf = s.buf := rfl
@[simp] theorem State.nextTick_done : (s.nextTick).done = s.done := rfl
@[simp] theorem State.nextTick_ppmValid : (s.nextTick).ppmValid = s.ppmValid := rfl
@[simp] theorem State.nextTick_tempValid : (s.nextTick).tempValid = s.tempValid := rfl
@[simp] theorem State.nextTick_timeout : (s.nextTick).timeout = s.timeout := rfl
@[simp] theorem State.nextTick_status : (s.nextTick).status = s.status := rfl
@[simp] theorem State.nextTick_ppm : (s.nextTick).ppm = s.ppm := rfl
@[simp] theorem State.nextTick_temp : (s.nextTick).temp = s.temp := rfl
@[simp] theorem State.nextTick_nrecv : (s.nextTick).nrecv = s.nrecv := rfl
@[simp] theorem State.nextTick_ckRecv : (s.nextTick).ckRecv = s.ckRecv := rfl
@[simp] theorem State.nextTick_ckCalc : (s.nextTick).ckCalc = s.ckCalc := rfl
@[simp] theorem State.nextTick_elapsed : (s.nextTick).elapsed = s.elapsed := rfl
@[simp] theorem State.nextTick_tmo : (s.nextTick).tmo = s.tmo := rfl
@[simp] theorem State.nextTick_slp : (s.nextTick).slp = s.slp := rfl
@[simp] theorem State.nextTick_params : (s.nextTick).params = s.params := rfl
@[simp] theorem State.nextTick_script : (s.nextTick).script = s.script.tail := rfl
@[simp] theorem State.nextTick_tick : (s.nextTick).tick = s.tick + 1 := rfl
@[simp] theorem State.nextTick_txStream : (s.nextTick).txStream = s.txStream := rfl
@[simp] theorem State.nextTick_rxTaken : (s.nextTick).rxTaken = s.rxTaken := rfl

/-! ### hardwareReset -/

@[simp] theorem State.hardwareReset_st : (s.hardwareReset).st = .idle := rfl
@[simp] theorem State.hardwareReset_opr : (s.hardwareReset).opr = .readPpm := rfl
@[simp] theorem State.hardwareReset_txi : (s.hardwareReset).txi = 0 := rfl
@[simp] theorem State.hardwareReset_cnt : (s.hardwareReset).cnt = 0 := rfl
@[simp] theorem State.hardwareReset_buf : (s.hardwareReset).buf = Frame.zero := rfl
@[simp] theorem State.hardwareReset_done : (s.hardwareReset).done = false := rfl
@[simp] theorem State.hardwareReset_ppmValid : (s.hardwareReset).ppmValid = false := rfl
@[simp] theorem State.hardwareReset_tempValid : (s.hardwareReset).tempValid = false := rfl
@[simp] theorem State.hardwareReset_timeout : (s.hardwareReset).timeout = s.params.timeoutDefault := rfl
@[simp] theorem State.hardwareReset_status : (s.hardwareReset).status = .none := rfl
@[simp] theorem State.hardwareReset_ppm : (s.hardwareReset).ppm = 0 := rfl
@[simp] theorem State.hardwareReset_temp : (s.hardwareReset).temp = 0 := rfl
@[simp] theorem State.hardwareReset_nrecv : (s.hardwareReset).nrecv = 0 := rfl
@[simp] theorem State.hardwareReset_ckRecv : (s.hardwareReset).ckRecv = 0 := rfl
@[simp] theorem State.hardwareReset_ckCalc : (s.hardwareReset).ckCalc = 0 := rfl
@[simp] theorem State.hardwareReset_elapsed : (s.hardwareReset).elapsed = 0 := rfl
@[simp] theorem State.hardwareReset_tmo : (s.hardwareReset).tmo = 0 := rfl
@[simp] theorem State.hardwareReset_slp : (s.hardwareReset).slp = 0 := rfl
@[simp] theorem State.hardwareReset_params : (s.hardwareReset).params = s.params := rfl
@[simp] theorem State.hardwareReset_script : (s.hardwareReset).script = s.script := rfl
@[simp] theorem State.hardwareReset_tick : (s.hardwareReset).tick = s.tick := rfl
@[simp] theorem State.hardwareReset_txStream : (s.hardwareReset).txStream = s.txStream := rfl
@[simp] theorem State.hardwareReset_rxTaken : (s.hardwareReset).rxTaken = s.rxTaken := rfl

/-! ### pause -/

@[simp] theorem State.pause_st : (s.pause).st = if s.params.pollTicks > 0 then .sleep else .wait := by
  unfold State.pause; split <;> simp_all
@[simp] theorem State.pause_opr : (s.pause).opr = s.opr := by
  unfold State.pause; split <;> rfl
@[simp] theorem State.pause_txi : (s.pause).txi = s.txi := by
  unfold State.pause; split <;> rfl
@[simp] theorem State.pause_cnt : (s.pause).cnt = s.cnt := by
  unfold State.pause; split <;> rfl
@[simp] theorem State.pause_buf : (s.pause).buf = s.buf := by
  unfold State.pause; split <;> rfl
@[simp] theorem State.pause_done : (s.pause).done = s.done := by
  unfold State.pause; split <;> rfl
@[simp] theorem State.pause_ppmValid : (s.pause).ppmValid = s.ppmValid := by
  unfold State.pause; split <;> rfl
@[simp] theorem State.pause_tempValid : (s.pause).tempValid = s.tempValid := by
  unfold State.pause; split <;> rfl
@[simp] theorem State.pause_timeout : (s.pause).timeout = s.timeout := by
  unfold State.pause; split <;> rfl
@[simp] theorem State.pause_status : (s.pause).status = s.status := by
  unfold State.pause; split <;> rfl
@[simp] theorem State.pause_ppm : (s.pause).ppm = s.ppm := by
  unfold State.pause; split <;> rfl
@[simp] theorem State.pause_temp : (s.pause).temp = s.temp := by
  unfold State.pause; split <;> rfl
@[simp] theorem State.pause_nrecv : (s.pause).nrecv = s.nrecv := by
  unfold State.pause; split <;> rfl
@[simp] theorem State.pause_ckRecv : (s.pause).ckRecv = s.ckRecv := by
  unfold State.pause; split <;> rfl
@[simp] theorem State.pause_ckCalc : (s.pause).ckCalc = s.ckCalc := by
  unfold State.pause; split <;> rfl
@[simp] theorem State.pause_elapsed : (s.pause).elapsed = s.elapsed := by
  unfold State.pause; split <;> rfl
@[simp] theorem State.pause_tmo : (s.pause).tmo = s.tmo := by
  unfold State.pause; split <;> rfl
@[simp] theorem State.pause_slp : (s.pause).slp = if s.params.pollTicks > 0 then s.params.pollTicks else s.slp := by
  unfold State.pause; split <;> simp_all
@[simp] theorem State.pause_params : (s.pause).params = s.params := by
  unfold State.pause; split <;> rfl
@[simp] theorem State.pause_script : (s.pause).script = s.script := by
  unfold State.pause; split <;> rfl
@[simp] theorem State.pause_tick : (s.pause).tick = s.tick := by
  unfold State.pause; split <;> rfl
@[simp] theorem State.pause_txStream : (s.pause).txStream = s.txStream := by
  unfold State.pause; split <;> rfl
@[simp] theorem State.pause_rxTaken : (s.pause).rxTaken = s.rxTaken := by
  unfold State.pause; split <;> rfl

/-! ### recordReading -/

@[simp] theorem State.recordReading_st (p : BitVec 16) (t : BitVec 9) : (s.recordReading p t).st = s.st := by
  unfold State.recordReading; split <;> rfl
@[simp] theorem State.recordReading_opr (p : BitVec 16) (t : BitVec 9) : (s.recordReading p t).opr = s.opr := by
  unfold State.recordReading; split <;> rfl
@[simp] theorem State.recordReading_txi (p : BitVec 16) (t : BitVec 9) : (s.recordReading p t).txi = s.txi := by
  unfold State.recordReading; split <;> rfl
@[simp] theorem State.recordReading_cnt (p : BitVec 16) (t : BitVec 9) : (s.recordReading p t).cnt = s.cnt := by
  unfold State.recordReading; split <;> rfl
@[simp] theorem State.recordReading_buf (p : BitVec 16) (t : BitVec 9) : (s.recordReading p t).buf = s.buf := by
  unfold State.recordReading; split <;> rfl
@[simp] theorem State.recordReading_done (p : BitVec 16) (t : BitVec 9) : (s.recordReading p t).done = s.done := by
  unfold State.recordReading; split <;> rfl
@[simp] theorem State.recordReading_ppmValid (p : BitVec 16) (t : BitVec 9) : (s.recordReading p t).ppmValid = true := by
  unfold State.recordReading; split <;> simp_all
@[simp] theorem State.recordReading_tempValid (p : BitVec 16) (t : BitVec 9) : (s.recordReading p t).tempValid = if s.opr = .readPpmTemp then true else s.tempValid := by
  unfold State.recordReading; split <;> simp_all
@[simp] theorem State.recordReading_timeout (p : BitVec 16) (t : BitVec 9) : (s.recordReading p t).timeout = s.timeout := by
  unfold State.recordReading; split <;> rfl
@[simp] theorem State.recordReading_status (p : BitVec 16) (t : BitVec 9) : (s.recordReading p t).status = s.status := by
  unfold State.recordReading; split <;> rfl
@[simp] theorem State.recordReading_ppm (p : BitVec 16) (t : BitVec 9) : (s.recordReading p t).ppm = p := by
  unfold State.recordReading; split <;> simp_all
@[simp] theorem State.recordReading_temp (p : BitVec 16) (t : BitVec 9) : (s.recordReading p t).temp = if s.opr = .readPpmTemp then t else s.temp := by
  unfold State.recordReading; split <;> simp_all
@[simp] theorem State.recordReading_nrecv (p : BitVec 16) (t : BitVec 9) : (s.recordReading p t).nrecv = s.nrecv := by
  unfold State.recordReading; split <;> rfl
@[simp] theorem State.recordReading_ckRecv (p : BitVec 16) (t : BitVec 9) : (s.recordReading p t).ckRecv = s.ckRecv := by
  unfold State.recordReading; split <;> rfl
@[simp] theorem State.recordReading_ckCalc (p : BitVec 16) (t : BitVec 9) : (s.recordReading p t).ckCalc = s.ckCalc := by
  unfold State.recordReading; split <;> rfl
@[simp] theorem State.recordReading_elapsed (p : BitVec 16) (t : BitVec 9) : (s.recordReading p t).elapsed = s.elapsed := by
  unfold State.recordReading; split <;> rfl
@[simp] theorem State.recordReading_tmo (p : BitVec 16) (t : BitVec 9) : (s.recordReading p t).tmo = s.tmo := by
  unfold State.recordReading; split <;> rfl
@[simp] theorem State.recordReading_slp (p : BitVec 16) (t : BitVec 9) : (s.recordReading p t).slp = s.slp := by
  unfold State.recordReading; split <;> rfl
@[simp] theorem State.recordReading_params (p : BitVec 16) (t : BitVec 9) : (s.recordReading p t).params = s.params := by
  unfold State.recordReading; split <;> rfl
@[simp] theorem State.recordReading_script (p : BitVec 16) (t : BitVec 9) : (s.recordReading p t).script = s.script := by
  unfold State.recordReading; split <;> rfl
@[simp] theorem State.recordReading_tick (p : BitVec 16) (t : BitVec 9) : (s.recordReading p t).tick = s.tick := by
  unfold State.recordReading; split <;> rfl
@[simp] theorem State.recordReading_txStream (p : BitVec 16) (t : BitVec 9) : (s.recordReading p t).txStream = s.txStream := by
  unfold State.recordReading; split <;> rfl
@[simp] theorem State.recordReading_rxTaken (p : BitVec 16) (t : BitVec 9) : (s.recordReading p t).rxTaken = s.rxTaken := by
  unfold State.recordReading; split <;> rfl

end Sys2Proof.Machine
end

