-- ==== Sys2Proof/Laws/Ticks.lean ====
section
/-!
SUPPORT. What each tick rule can do, said once: the tick of every phase, and the inversion of a step. Later proofs cite these
and do not unfold the machine.
-/
namespace Sys2Proof.Machine

@[simp] theorem endOfTick_next (i : Inputs) (s : State) : endOfTick i (.next s) = .next (s.configure i).nextTick := rfl
@[simp] theorem endOfTick_fault (i : Inputs) (r : Fault) : endOfTick i (.fault r) = .fault r := rfl
@[simp] theorem endOfTick_refused (i : Inputs) (r : Refusal) : endOfTick i (.refused r) = .refused r := rfl

/-- If the end of a tick answers, the rule of the phase answered. -/
theorem endOfTick_eq_next {i : Inputs} {r : Result} {t : State} (h : endOfTick i r = .next t) :
    ∃ m, r = .next m ∧ t = (m.configure i).nextTick := by
  cases r with
  | next m => cases h; exact ⟨m, rfl, rfl⟩
  | fault r => cases h
  | refused r => cases h

/-- What a `start` can do. -/
theorem issueStart_cases (op : HostOp) (s : State) :
    (s.st = .idle ∧ issueStart op s = .next (s.acceptStart op)) ∨ (s.st ≠ .idle ∧ issueStart op s = .next s) := by
  by_cases h : s.st = .idle
  · exact .inl ⟨h, if_pos h⟩
  · exact .inr ⟨h, if_neg h⟩

@[simp] theorem exec_hostOp (op : HostOp) (s : State) : exec op.instr s = issueStart op s := by
  cases op <;> rfl

@[simp] theorem exec_command (c : Command) (s : State) : exec c.instr s = sendTick c s := by
  cases c <;> rfl

@[simp] theorem exec_decode (f : Frame) (s : State) : exec (.decode f) s = execDecode f s := rfl

/-- What the `SEND` tick can do in its phase. -/
theorem sendTick_cases {c : Command} {s : State} (hst : s.st = .send) (hc : s.opr.command = c) :
    (s.now.txFail = true ∧ sendTick c s = .next (s.complete .xportWrFail)) ∨
    (s.now.txFail = false ∧ s.now.txReady = false ∧ sendTick c s = .next s) ∨
    (s.now.txFail = false ∧ s.now.txReady = true ∧ 8 < s.txi.toNat ∧ sendTick c s = .fault .noCommandByte) ∨
    (s.now.txFail = false ∧ s.now.txReady = true ∧ ∃ b, cmdByte c s.txi.toNat = some b ∧
      ((s.txi = 8 ∧ sendTick c s = .next (lastByteSent (s.txPush b))) ∨
       (s.txi.toNat < 8 ∧ sendTick c s = .next (s.txPush b).nextCommandByte))) := by
  unfold sendTick
  rw [if_pos ⟨hst, hc⟩]
  cases hf : s.now.txFail
  · cases hr : s.now.txReady
    · simp
    · by_cases h8 : s.txi.toNat ≤ 8
      · obtain ⟨b, hb⟩ := cmdByte_of_le (c := c) h8
        right; right; right
        refine ⟨rfl, rfl, b, hb, ?_⟩
        by_cases e : s.txi = 8
        · exact .inl ⟨e, by simp [e, show cmdByte c 8 = some b by simpa [e] using hb]⟩
        · refine .inr ⟨?_, by simp only [hb, e, if_false, if_true, Bool.false_eq_true]⟩
          have : s.txi.toNat ≠ 8 := fun h => e (BitVec.eq_of_toNat_eq h)
          omega
      · right; right; left
        have hn : cmdByte c s.txi.toNat = none := by
          rw [cmdByte_eq, List.getElem?_eq_none]; simp only [Frame.length_toBytes]; omega
        exact ⟨rfl, rfl, by omega, by simp [hn]⟩
  · simp

/-- Outside its phase a `SEND` form has no meaning (log 6). -/
theorem sendTick_outside {c : Command} {s : State} (h : ¬ (s.st = .send ∧ s.opr.command = c)) :
    sendTick c s = .refused .outsideItsPhase := if_neg h

/-- If a `SEND` form answers a next state, it is in its phase and one of these happened. -/
theorem sendTick_next {c : Command} {s t : State} (h : sendTick c s = .next t) :
    s.st = .send ∧ s.opr.command = c ∧
    ((s.now.txFail = true ∧ t = s.complete .xportWrFail) ∨
     (s.now.txFail = false ∧ s.now.txReady = false ∧ t = s) ∨
     (s.now.txFail = false ∧ s.now.txReady = true ∧ ∃ b, cmdByte c s.txi.toNat = some b ∧
       ((s.txi = 8 ∧ t = lastByteSent (s.txPush b)) ∨ (s.txi.toNat < 8 ∧ t = (s.txPush b).nextCommandByte)))) := by
  by_cases hp : s.st = .send ∧ s.opr.command = c
  · refine ⟨hp.1, hp.2, ?_⟩
    obtain ⟨hf, e⟩ | ⟨hf, hr, e⟩ | ⟨hf, hr, -, e⟩ | ⟨hf, hr, b, hb, ⟨h8, e⟩ | ⟨h8, e⟩⟩ := sendTick_cases hp.1 hp.2 <;>
      rw [e] at h <;> cases h
    · exact .inl ⟨hf, rfl⟩
    · exact .inr (.inl ⟨hf, hr, rfl⟩)
    · exact .inr (.inr ⟨hf, hr, b, hb, .inl ⟨h8, rfl⟩⟩)
    · exact .inr (.inr ⟨hf, hr, b, hb, .inr ⟨h8, rfl⟩⟩)
  · rw [sendTick_outside hp] at h; cases h

/-- What the `WAIT` tick can do. -/
theorem waitTick_cases (s : State) :
    (s.tmo < s.elapsed ∧ waitTick s = .next (s.complete .readTimeout)) ∨
    (s.elapsed ≤ s.tmo ∧ s.now.rxFail = true ∧ waitTick s = .next (s.complete .xportRdFail)) ∨
    (s.elapsed ≤ s.tmo ∧ s.now.rxFail = false ∧ s.now.rxAvail = true ∧ s.cnt.toNat ≤ 8 ∧
      waitTick s = .next (((s.rxPop s.now.rxData).countTick).goto (if s.cnt = 8 then .check else .wait))) ∨
    (s.elapsed ≤ s.tmo ∧ s.now.rxFail = false ∧ s.now.rxAvail = true ∧ 8 < s.cnt.toNat ∧
      waitTick s = .fault .noBufferEntry) ∨
    (s.elapsed ≤ s.tmo ∧ s.now.rxFail = false ∧ s.now.rxAvail = false ∧ waitTick s = .next s.countTick.pause) := by
  unfold waitTick State.expired
  by_cases he : s.elapsed > s.tmo
  · exact .inl ⟨he, by simp [he]⟩
  · have he' : s.elapsed ≤ s.tmo := by omega
    cases hf : s.now.rxFail
    · cases ha : s.now.rxAvail
      · simp [he, he']
      · by_cases h8 : s.cnt.toNat ≤ 8
        · simp [he, he', h8]
        · simp [he, he', h8, show 8 < s.cnt.toNat by omega]
    · simp [he, he']

/-- What the `SLEEP` tick can do. -/
theorem sleepTick_cases (s : State) :
    (s.slp = 0 ∧ sleepTick s = .fault .sleepCounterZero) ∨ (1 ≤ s.slp ∧ sleepTick s = .next s.countTick.sleepOn) := by
  by_cases h : s.slp = 0
  · exact .inl ⟨h, if_pos h⟩
  · exact .inr ⟨by omega, if_neg h⟩

/-- If `DECODE` answers a next state, it was the `CHECK` tick. -/
theorem execDecode_next {f : Frame} {s t : State} (h : execDecode f s = .next t) :
    s.st = .check ∧ t = finishReading (f.reading s.params.cksumWrap) s := by
  unfold execDecode at h
  split at h
  · next hc => cases h; exact ⟨hc, rfl⟩
  · cases h

/-! ### The tick of each phase -/

/-- The code on the `op` port is read as R56 says. -/
theorem decode_op (op : BitVec 3) :
    (∃ o : HostOp, op = o.code.setWidth 3 ∧ decode .op3 [op.setWidth 8] = .ok o.instr) ∨
    (4 ≤ op.toNat ∧ decode .op3 [op.setWidth 8] = .error .reservedOp) := by
  have h : op = 0 ∨ op = 1 ∨ op = 2 ∨ op = 3 ∨ op = 4 ∨ op = 5 ∨ op = 6 ∨ op = 7 := by
    revert op; decide
  rcases h with rfl | rfl | rfl | rfl | rfl | rfl | rfl | rfl
  · exact .inl ⟨.readPpm, rfl, rfl⟩
  · exact .inl ⟨.readPpmTemp, rfl, rfl⟩
  · exact .inl ⟨.resetSensor, rfl, rfl⟩
  · exact .inl ⟨.disableAbc, rfl, rfl⟩
  all_goals exact .inr ⟨by decide, rfl⟩

theorem decode_op_code (o : HostOp) : decode .op3 [(o.code.setWidth 3).setWidth 8] = .ok o.instr := by
  cases o <;> rfl

theorem decode_cmdRom (c : Command) : decode .cmd (cmdRom c).toBytes = .ok c.instr := by
  cases c <;> rfl

theorem phaseTick_rest {s : State} (h : s.st = .idle) (hs : s.now.start = false) : phaseTick s = .next s := by
  simp [phaseTick, State.work, h, hs]

/-- An `IDLE` tick with a start is an accepted or a refused start (R86, R87). -/
theorem phaseTick_start {s : State} (h : s.st = .idle) (hs : s.now.start = true) :
    (∃ o : HostOp, s.now.op = o.code.setWidth 3 ∧ phaseTick s = .next (s.acceptStart o)) ∨
    (4 ≤ s.now.op.toNat ∧ phaseTick s = .next s.refuseStart) := by
  have e : phaseTick s = runWord .op3 [s.now.op.setWidth 8] s := by simp [phaseTick, State.work, h, hs]
  rw [e]
  unfold runWord
  obtain ⟨o, ho, hd⟩ | ⟨ho, hd⟩ := decode_op s.now.op
  · refine .inl ⟨o, ho, ?_⟩
    rw [hd]
    simp [issueStart, h]
  · exact .inr ⟨ho, by rw [hd]⟩

theorem phaseTick_send {s : State} (h : s.st = .send) : phaseTick s = sendTick s.opr.command s := by
  simp [phaseTick, State.work, h, runWord, decode_cmdRom]

theorem phaseTick_wait {s : State} (h : s.st = .wait) : phaseTick s = waitTick s := by
  simp [phaseTick, State.work, h]

theorem phaseTick_sleep {s : State} (h : s.st = .sleep) : phaseTick s = sleepTick s := by
  simp [phaseTick, State.work, h]

theorem phaseTick_check {s : State} (h : s.st = .check) :
    phaseTick s = .next (finishReading (s.buf.reading s.params.cksumWrap) s) := by
  simp [phaseTick, State.work, h, runWord, decode, decodeRsp, execDecode]

/-- If a tick answers a next state, it was a reset, or the rule of the phase answered and the tick ended. -/
theorem step_next {s t : State} (h : step s = .next t) :
    (s.now.rst = true ∧ t = s.hardwareReset.nextTick) ∨
    (s.now.rst = false ∧ ∃ m, phaseTick s = .next m ∧ t = (m.configure s.now).nextTick) := by
  unfold step clockTick at h
  split at h
  · next hr => cases h; exact .inl ⟨hr, rfl⟩
  · next hr => exact .inr ⟨by simpa using hr, endOfTick_eq_next h⟩

theorem step_rst {s : State} (h : s.now.rst = true) : step s = .next s.hardwareReset.nextTick := if_pos h

theorem step_phase {s : State} (h : s.now.rst = false) : step s = endOfTick s.now (phaseTick s) := by
  simp [step, clockTick, h]

/-- Everything the rule of a phase can answer as a next state: the transitions of 10_state.md R18, with what each does. -/
theorem phaseTick_next {s m : State} (h : phaseTick s = .next m) :
    (s.st = .idle ∧ s.now.start = false ∧ m = s) ∨
    (s.st = .idle ∧ s.now.start = true ∧ ∃ o : HostOp, s.now.op = o.code.setWidth 3 ∧ m = s.acceptStart o) ∨
    (s.st = .idle ∧ s.now.start = true ∧ 4 ≤ s.now.op.toNat ∧ m = s.refuseStart) ∨
    (s.st = .send ∧ sendTick s.opr.command s = .next m) ∨
    (s.st = .wait ∧ waitTick s = .next m) ∨
    (s.st = .sleep ∧ 1 ≤ s.slp ∧ m = s.countTick.sleepOn) ∨
    (s.st = .check ∧ m = finishReading (s.buf.reading s.params.cksumWrap) s) := by
  cases hst : s.st
  · cases hs : s.now.start
    · rw [phaseTick_rest hst hs] at h; cases h; simp
    · obtain ⟨o, ho, e⟩ | ⟨ho, e⟩ := phaseTick_start hst hs <;> rw [e] at h <;> cases h
      · exact .inr (.inl ⟨rfl, rfl, o, ho, rfl⟩)
      · exact .inr (.inr (.inl ⟨rfl, rfl, ho, rfl⟩))
  · rw [phaseTick_send hst] at h; simp [h]
  · rw [phaseTick_wait hst] at h; simp [h]
  · rw [phaseTick_sleep hst] at h
    obtain ⟨-, e⟩ | ⟨hp, e⟩ := sleepTick_cases s <;> rw [e] at h <;> cases h
    simp [hp]
  · rw [phaseTick_check hst] at h; cases h; simp

end Sys2Proof.Machine
end

