-- ==== Sys2Proof/Tests/Slice0.lean ====
section
/-!
SUPPORT. Tests with values from the spec's vectors (95_test_vectors.md, named in each comment), and for every statement with
hypotheses a witness: concrete states and operands that meet them together.
-/
namespace Sys2Proof.Tests
open Sys2Proof.Machine

/-! ### Small states -/

/-- The parameters of program P1. -/
def p1 : Params := { tClkMicros := 1000, tw := 8, timeoutDefault := 20, pollTicks := 2, cksumWrap := false }

/-- Nothing but a ready transport. -/
def quiet : Inputs := { Inputs.quiet with txReady := true }

/-- A start on the `op` port. -/
def starting (op : BitVec 3) : Inputs := { quiet with start := true, op := op }

/-- A byte at the head of the receive queue. -/
def byteWaiting (b : Byte) : Inputs := { quiet with rxAvail := true, rxData := b }

/-- The example frame `F` of the vectors. -/
def exampleFrame : Frame :=
  { b0 := 255, b1 := 1, b2 := 3, b3 := 32, b4 := 63, b5 := 0, b6 := 0, b7 := 0, b8 := 157 }

def idle (i : Inputs) : State := { State.resetWith p1 with script := [i] }

def sending (op : HostOp) (txi : BitVec 4) (i : Inputs) : State :=
  { idle i with st := .send, opr := op, tmo := 20, txi := txi, txStream := (cmdRom op.command).toBytes.take txi.toNat }

def reading (cnt : BitVec 4) (elapsed tmo : Nat) (i : Inputs) : State :=
  { idle i with
    st := .wait, opr := .readPpmTemp, tmo := tmo, elapsed := elapsed, cnt := cnt
    txStream := (cmdRom .read).toBytes
    buf := if cnt = 0 then Frame.zero else if cnt = 1 then { Frame.zero with b0 := 255 } else { exampleFrame with b8 := 0 }
    rxTaken := exampleFrame.toBytes.take cnt.toNat }

def sleeping (slp elapsed : Nat) (i : Inputs) : State := { reading 0 elapsed 20 i with st := .sleep, slp := slp }

def checking (op : HostOp) (f : Frame) : State :=
  { idle quiet with
    st := .check, opr := op, tmo := 20, elapsed := 9, cnt := 9, buf := f
    txStream := (cmdRom .read).toBytes, rxTaken := f.toBytes }

/-- The answer is a next state with a property. -/
def after (r : Result) (p : State → Bool) : Bool :=
  match r with
  | .next t => p t
  | .fault _ => false
  | .refused _ => false

theorem exists_next {r : Result} (p : State → Bool) (h : after r p = true) : ∃ t, r = .next t ∧ p t = true := by
  cases r with
  | next t => exact ⟨t, rfl, h⟩
  | fault r => cases h
  | refused r => cases h

/-! ### Well-formedness: one ill-formed term for each check of 00_scope.md R7 -/

theorem test_reference_wf : Config.reference.wf := by decide
theorem test_wf_refuses_no_period : ¬ ({ p1 with tClkMicros := 0 } : Params).wf := by decide
theorem test_wf_refuses_no_width : ¬ ({ p1 with tw := 0, timeoutDefault := 0 } : Params).wf := by decide
theorem test_wf_refuses_wide_default : ¬ ({ p1 with timeoutDefault := 256 } : Params).wf := by decide
theorem test_wf_takes_widest_default : ({ p1 with timeoutDefault := 255 } : Params).wf := by decide
theorem test_instr_wf : Instr.wf .readPpm = true ∧ Instr.wf (.decode Frame.zero) = true := by decide

/-! ### Decoding: words written out from 30_encoding.md R53, R54, R56 -/

theorem test_word_readPpm : decode .op3 [0b00000000] = .ok .readPpm := by decide
theorem test_word_readPpmTemp : decode .op3 [0b00000001] = .ok .readPpmTemp := by decide
theorem test_word_resetSensor : decode .op3 [0b00000010] = .ok .resetSensor := by decide
theorem test_word_disableAbc : decode .op3 [0b00000011] = .ok .disableAbc := by decide
theorem test_word_sendRead :
    decode .cmd [0b11111111, 0b00000001, 0b10000110, 0, 0, 0, 0, 0, 0b01111001] = .ok .sendRead := by decide
theorem test_word_sendReset :
    decode .cmd [0b11111111, 0b00000001, 0b10000111, 0, 0, 0, 0, 0, 0b01111000] = .ok .sendReset := by decide
theorem test_word_sendAbcoff :
    decode .cmd [0b11111111, 0b00000001, 0b01111001, 0, 0, 0, 0, 0, 0b10000110] = .ok .sendAbcoff := by decide
theorem test_word_decode :
    decode .rsp [0b11111111, 0b00000001, 0b00000011, 0b00100000, 0b00111111, 0, 0, 0, 0b10011101] =
      .ok (.decode exampleFrame) := by decide

/-- R58: reserved codes, a wrong constant, a short frame; and a byte that the three wires of `op` cannot carry. -/
theorem test_words_rejected :
    decode .op3 [0b100] = .error .reservedOp ∧ decode .op3 [0b111] = .error .reservedOp ∧
    decode .op3 [8] = .error .notAnOp ∧ decode .op3 [] = .error .notAnOp ∧
    decode .cmd [0xFF, 1, 0x86, 0, 0, 0, 0, 0, 0x78] = .error .notACommand ∧
    decode .cmd [0xFF, 1, 0x86] = .error .notNineBytes ∧ decode .rsp [0xFF] = .error .notNineBytes := by decide

/-- The 72-bit words of R54, and R58 d: a frame with another marker is a `DECODE` too. -/
theorem test_table_words :
    decodeTableWord 72 0xFF0186000000000079 = some .sendRead ∧
    decodeTableWord 72 0xFF0187000000000078 = some .sendReset ∧
    decodeTableWord 72 0xFF0179000000000086 = some .sendAbcoff ∧
    decodeTableWord 72 0xFF0103203F0000009D = some (.decode exampleFrame) ∧
    decodeTableWord 72 0xFE0103203F0000009D = some (.decode { exampleFrame with b0 := 254 }) ∧
    decodeTableWord 8 2 = some .resetSensor ∧ decodeTableWord 8 4 = none ∧ decodeTableWord 8 255 = none ∧
    decodeTableWord 8 256 = none := by decide

/-! ### One step of each instruction -/

/-- V-C11, `t = 0`: `TMO` takes the old `TIMEOUT`. -/
theorem test_readPpm_with_write :
    after (step (idle { starting 0 with cfgWe := true, cfgTimeout := 5 }))
      (fun t => t.st = .send ∧ t.opr = .readPpm ∧ t.tmo = 20 ∧ t.timeout = 5) = true := by decide

/-- V-C2 then a new read: the old results go. -/
theorem test_readPpmTemp_clears :
    after (step { idle (starting 1) with done := true, status := .ok, ppm := 800, ppmValid := true, nrecv := 9 })
      (fun t => t.st = .send ∧ t.opr = .readPpmTemp ∧ !t.done ∧ t.status = .none ∧ t.ppm = 0 ∧ !t.ppmValid ∧ t.nrecv = 0) =
      true := by decide

/-- V-C8: a start in `SEND` changes nothing. -/
theorem test_resetSensor_while_busy :
    after (step (sending .readPpm 4 (starting 2))) (fun t => t.opr = .readPpm ∧ t.txi = 5) = true := by decide

/-- V-C10, `t = 10`. -/
theorem test_disableAbc_accepted :
    after (step { idle (starting 3) with done := true, status := .ok, opr := .resetSensor })
      (fun t => t.st = .send ∧ t.opr = .disableAbc ∧ !t.done ∧ t.status = .none) = true := by decide

/-- V-S3, `t = 9`. -/
theorem test_sendRead_last :
    after (step (sending .readPpm 8 quiet))
      (fun t => t.st = .wait ∧ t.txi = 0 ∧ t.elapsed = 0 ∧ !t.done ∧
        t.txStream = [255, 1, 134, 0, 0, 0, 0, 0, 121]) = true := by decide

/-- V-S5, `t = 4`: the failure wins over the readiness; three bytes stay sent. -/
theorem test_sendRead_fails :
    after (step (sending .readPpm 3 { quiet with txFail := true }))
      (fun t => t.st = .idle ∧ t.status = .xportWrFail ∧ t.done ∧ t.nrecv = 0 ∧ t.txi = 0 ∧
        t.txStream = [255, 1, 134]) = true := by decide

/-- V-S1, `t = 9`. -/
theorem test_sendReset_last :
    after (step (sending .resetSensor 8 quiet))
      (fun t => t.st = .idle ∧ t.status = .ok ∧ t.done ∧ t.opr = .resetSensor ∧ t.nrecv = 0 ∧
        t.txStream = [255, 1, 135, 0, 0, 0, 0, 0, 120]) = true := by decide

/-- V-S4, `t = 3`: a stall. -/
theorem test_sendReset_stalls :
    after (step (sending .resetSensor 2 { quiet with txReady := false }))
      (fun t => t.st = .send ∧ t.txi = 2 ∧ t.txStream = [255, 1]) = true := by decide

/-- V-S2, `t = 3`: the third byte is 121. -/
theorem test_sendAbcoff_third :
    after (step (sending .disableAbc 2 quiet)) (fun t => t.txi = 3 ∧ t.txStream = [255, 1, 121]) = true := by decide

/-- V-S6, `t = 9`: eight bytes on the wire and no `OK`. -/
theorem test_sendAbcoff_fails_late :
    after (step (sending .disableAbc 8 { quiet with txFail := true }))
      (fun t => t.status = .xportWrFail ∧ t.txStream.length = 8) = true := by decide

/-- V-D2 to V-D18, a choice of them, and V-D7 with `CKSUM_WRAP = 1`. -/
theorem test_decode_vectors :
    ({ exampleFrame with b8 := 156 } : Frame).reading false = .badChecksum 156 157 ∧
    ({ exampleFrame with b0 := 254 } : Frame).reading false = .badMarker ∧
    (Frame.mk 255 1 255 255 0 0 0 0 1).reading false = .ok 65535 0x1D8 ∧
    (Frame.mk 255 255 255 255 255 255 255 255 7).reading false = .ok 65535 0x0D7 ∧
    (Frame.mk 255 1 0 255 0 0 0 0 255).reading false = .badChecksum 255 256 ∧
    (Frame.mk 255 1 4 31 63 0 0 0 157).reading false = .ok 1055 23 ∧
    (Frame.mk 255 1 0 0 39 0 0 0 216).reading false = .ok 0 0x1FF ∧
    (Frame.mk 255 134 1 144 67 0 0 0 166).reading false = .ok 400 27 ∧
    (Frame.mk 255 0 0 0 0 0 0 0 0).reading false = .badChecksum 0 256 ∧
    (Frame.mk 255 0 0 0 0 0 0 0 0).reading true = .ok 0 0x1D8 := by decide

/-- V-C1 and V-C2: the same frame, with and without the temperature. -/
theorem test_decode_tick :
    after (step (checking .readPpmTemp exampleFrame))
      (fun t => t.st = .idle ∧ t.ppm = 800 ∧ t.temp = 23 ∧ t.nrecv = 9 ∧ t.flags = 0b1110 ∧ t.buf = Frame.zero) = true ∧
    after (step (checking .readPpm exampleFrame))
      (fun t => t.ppm = 800 ∧ t.temp = 0 ∧ t.nrecv = 9 ∧ t.flags = 0b0110) = true := by decide

/-! ### Ticks without an instruction -/

/-- V-C7: the refused start, and the configuration write of the same tick. -/
theorem test_refused_start :
    after (step (idle { starting 7 with cfgWe := true, cfgTimeout := 99 }))
      (fun t => t.st = .idle ∧ t.status = .illegalOp ∧ t.done ∧ t.timeout = 99 ∧ t.opr = .readPpm ∧ t.tmo = 0) = true := by
  decide

/-- P2, `t = 16` and `t = 17`: `ELAPSED = TMO` still takes a byte, one tick later the timeout wins over a waiting byte. -/
theorem test_deadline :
    after (step (reading 1 6 6 (byteWaiting 32))) (fun t => t.st = .wait ∧ t.cnt = 2 ∧ t.elapsed = 7 ∧ t.buf.b1 = 32) = true ∧
    after (step (reading 1 7 6 (byteWaiting 63)))
      (fun t => t.st = .idle ∧ t.status = .readTimeout ∧ t.nrecv = 1 ∧ t.rxTaken = [255]) = true := by decide

/-- V-R8, `k = 2`: a read failure wins over a waiting byte. -/
theorem test_read_failure :
    after (step (reading 1 2 10 { byteWaiting 3 with rxFail := true }))
      (fun t => t.status = .xportRdFail ∧ t.nrecv = 1 ∧ t.rxTaken = [255]) = true := by decide

/-- P1, `t = 10` to `t = 12`: no byte, then the last tick of the sleep, on which a byte is not looked at. -/
theorem test_sleep :
    after (step (reading 0 0 20 quiet)) (fun t => t.st = .sleep ∧ t.slp = 2 ∧ t.elapsed = 1) = true ∧
    after (step (sleeping 1 2 (byteWaiting 255))) (fun t => t.st = .wait ∧ t.slp = 0 ∧ t.elapsed = 3 ∧ t.rxTaken = []) = true := by
  decide

/-- V-R15: `ELAPSED` of 4 bits stays 15. -/
theorem test_saturation :
    after (step { sleeping 2 15 quiet with params := { p1 with tw := 3, timeoutDefault := 7 } })
      (fun t => t.elapsed = 15 ∧ t.slp = 1) = true := by decide

/-- V-C13, `t = 14`: reset wins over everything. -/
theorem test_reset_tick :
    after (step { reading 1 3 20 { byteWaiting 32 with rst := true, start := true, op := 2, cfgWe := true, cfgTimeout := 9 } with
        timeout := 50 })
      (fun t => t.st = .idle ∧ t.opr = .readPpm ∧ t.timeout = 20 ∧ t.tmo = 0 ∧ !t.done ∧ t.status = .none ∧ t.cnt = 0 ∧
        t.rxTaken = [255]) = true := by decide

/-- V-C3 with V-D14: `TEMP` of -1 reads as the pattern `0x1FF`; V-C4: `CK_CALC` reads 256; V-C6: `ILLEGAL_OP` reads 7. -/
theorem test_read_out :
    after (step (checking .readPpmTemp (Frame.mk 255 1 0 0 39 0 0 0 216)))
      (fun t => t.readReg 1 = some 1 ∧ t.readReg 2 = some 0 ∧ t.readReg 3 = some 0x1FF ∧ t.readReg 4 = some 9 ∧
        t.readReg 7 = some 0b1110) = true ∧
    after (step (checking .readPpmTemp (Frame.mk 255 0 0 0 0 0 0 0 0)))
      (fun t => t.readReg 1 = some 4 ∧ t.readReg 5 = some 0 ∧ t.readReg 6 = some 256) = true ∧
    after (step (idle (starting 5))) (fun t => t.readReg 0 = some 20 ∧ t.readReg 1 = some 7) = true := by decide

/-- The outputs of V-S3 at `t = 9` and of a stalled tick: `tx_data` is 0 without a push. -/
theorem test_outputs :
    (sending .readPpm 8 quiet).outputs = { busy := true, done := false, txPush := true, txData := 121, rxPop := false } ∧
    (sending .readPpm 8 { quiet with txReady := false }).outputs =
      { busy := true, done := false, txPush := false, txData := 0, rxPop := false } := by decide

/-- P3, `t = 31`: a transport with two bytes waiting gives one. -/
theorem test_bench_takes_one :
    (match ({ block := reading 1 11 20 quiet, transport := { queue := [0, 157] } } : Bench).tick [] quiet with
      | .next c => decide (c.transport.queue = [157] ∧ c.block.rxTaken = [255, 0])
      | .fault _ => false
      | .refused _ => false) = true := by decide

/-! ### Witnesses: the hypotheses of the statements can be met -/

theorem witness_StepRunsDecodedInstruction :
    ((idle (starting 1)).now.rst = false ∧ (idle (starting 1)).work = .word .op3 [1] ∧
      decode .op3 [1] = .ok .readPpmTemp ∧ Instr.wf .readPpmTemp = true) ∧
    ((sending .resetSensor 0 quiet).now.rst = false ∧
      (sending .resetSensor 0 quiet).work = .word .cmd [255, 1, 135, 0, 0, 0, 0, 0, 120] ∧
      decode .cmd [255, 1, 135, 0, 0, 0, 0, 0, 120] = .ok .sendReset ∧ Instr.wf .sendReset = true) ∧
    ((checking .readPpm exampleFrame).now.rst = false ∧
      (checking .readPpm exampleFrame).work = .word .rsp exampleFrame.toBytes ∧
      decode .rsp exampleFrame.toBytes = .ok (.decode exampleFrame) ∧
      Instr.wf (.decode exampleFrame) = true) := by decide

/-- Every row of the table has a word; `step` after the placing answers a next state, from reset too. -/
theorem witness_PlacedWordRuns :
    decodeTableWord 8 0 = some .readPpm ∧ decodeTableWord 8 1 = some .readPpmTemp ∧
    decodeTableWord 8 3 = some .disableAbc ∧ decodeTableWord 72 0 = some (.decode Frame.zero) ∧
    after (step (State.reset.withFetchWord 8 0)) (fun t => t.st = .send) = true ∧
    after (step (State.reset.withFetchWord 72 0xFF0186000000000079)) (fun t => t.txStream = [255]) = true ∧
    after (step (State.reset.withFetchWord 72 0xFF0103203F0000009D)) (fun t => t.ppm = 800) = true := by decide

theorem witness_TableWordsDecode : 4 ≤ 4 ∧ decodeTableWord 8 4 = none ∧ decodeTableWord 8 300 = none := by decide

theorem witness_ResetTick : (reading 1 3 20 { byteWaiting 32 with rst := true }).now.rst = true := by decide

theorem witness_TimeoutWrittenByHostOnly :
    (∃ t, step (reading 1 3 20 { quiet with cfgWe := true, cfgTimeout := 255 }) = .next t ∧ decide (t.timeout = 255) = true) ∧
    (∃ t, step (reading 1 3 20 { quiet with cfgWe := true, cfgTimeout := 256 }) = .next t ∧ decide (t.timeout = 0) = true) ∧
    (∃ t, step (reading 1 3 20 quiet) = .next t ∧ decide (t.timeout = 20) = true) ∧ quiet.rst = false :=
  ⟨exists_next _ (by decide), exists_next _ (by decide), exists_next _ (by decide), rfl⟩

theorem witness_TmoWrittenByStartOnly :
    (∃ t, step (reading 1 3 20 { quiet with rst := true }) = .next t ∧ decide (t.tmo = 0) = true) ∧
    (∃ t, step (idle (starting 3)) = .next t ∧ decide (t.tmo = 20) = true) ∧
    (∃ t, step (idle (starting 4)) = .next t ∧ decide (t.tmo = 0) = true) ∧
    (∃ t, step (reading 1 3 20 (starting 3)) = .next t ∧ decide (t.tmo = 20) = true) :=
  ⟨exists_next _ (by decide), exists_next _ (by decide), exists_next _ (by decide), exists_next _ (by decide)⟩

theorem witness_RefusedStart :
    ((idle (starting 4)).now.rst = false ∧ (idle (starting 4)).st = .idle ∧ (idle (starting 4)).now.start = true ∧
      4 ≤ (idle (starting 4)).now.op.toNat) ∧ 4 ≤ (idle (starting 7)).now.op.toNat := by decide

theorem witness_idle_quiet_inv : (idle quiet).Inv :=
  ⟨by decide, by decide, by decide, by decide, by decide, by decide, by decide, by decide, by decide, by decide⟩

/-- The invariant does not look at the inputs. -/
theorem witness_idle_inv (i : Inputs) : (idle i).Inv := witness_idle_quiet_inv

theorem witness_AcceptedStart :
    (idle (starting 3)).now.rst = false ∧ (idle (starting 3)).st = .idle ∧ (idle (starting 3)).now.start = true ∧
    (idle (starting 3)).now.op = HostOp.disableAbc.code.setWidth 3 ∧ (idle (starting 3)).Inv :=
  ⟨by decide, by decide, by decide, by decide, witness_idle_inv _⟩

theorem witness_IdleTick :
    (idle quiet).now.rst = false ∧ (idle quiet).st = .idle ∧ (idle quiet).now.start = false := by decide

theorem witness_BusyStartIgnored : (sending .resetSensor 8 (starting 3)).st ≠ .idle := by decide

theorem witness_TransportIgnoredOutsideSendAndWait :
    (idle quiet).st = .idle ∧ (sleeping 1 2 quiet).st = .sleep ∧ (checking .readPpm exampleFrame).st = .check := by decide

theorem witness_UnavailableDataUnused : quiet.rxAvail = false := by decide

theorem witness_HostOperationAccepted : (idle quiet).st = .idle := by decide

theorem witness_HostOperationIgnoredWhileBusy : (reading 1 3 20 quiet).st ≠ .idle := by decide

theorem witness_HostOperationFrame :
    (∃ t, exec .readPpm (idle quiet) = .next t ∧ decide (t.st = .send) = true) ∧
    (∃ t, exec .disableAbc (reading 1 3 20 quiet) = .next t ∧ decide (t.st = .wait) = true) :=
  ⟨exists_next _ (by decide), exists_next _ (by decide)⟩

theorem witness_SendByte :
    (sending .readPpm 7 quiet).st = .send ∧ (sending .readPpm 7 quiet).opr.command = .read ∧
    (sending .readPpm 7 quiet).now.txFail = false ∧ (sending .readPpm 7 quiet).now.txReady = true ∧
    (sending .readPpm 7 quiet).txi.toNat < 8 ∧
    (sending .resetSensor 0 quiet).opr.command = .reset ∧ (sending .disableAbc 0 quiet).opr.command = .abcoff := by decide

theorem witness_SendReadLastByte :
    (sending .readPpmTemp 8 quiet).st = .send ∧ (sending .readPpmTemp 8 quiet).opr.isRead = true ∧
    (sending .readPpmTemp 8 quiet).now.txFail = false ∧ (sending .readPpmTemp 8 quiet).now.txReady = true ∧
    (sending .readPpmTemp 8 quiet).txi = 8 := by decide

theorem witness_SendOnlyLastByte :
    (sending .resetSensor 8 quiet).st = .send ∧ (sending .resetSensor 8 quiet).now.txFail = false ∧
    (sending .resetSensor 8 quiet).now.txReady = true ∧ (sending .resetSensor 8 quiet).txi = 8 ∧
    (sending .resetSensor 8 quiet).opr = .resetSensor ∧ (sending .disableAbc 8 quiet).opr = .disableAbc := by decide

theorem witness_SendWriteFailure :
    (sending .disableAbc 8 { quiet with txFail := true }).st = .send ∧
    (sending .disableAbc 8 { quiet with txFail := true }).opr.command = .abcoff ∧
    (sending .disableAbc 8 { quiet with txFail := true }).now.txFail = true := by decide

theorem witness_SendStall :
    (sending .readPpm 2 Inputs.quiet).st = .send ∧ (sending .readPpm 2 Inputs.quiet).opr.command = .read ∧
    (sending .readPpm 2 Inputs.quiet).now.txFail = false ∧ (sending .readPpm 2 Inputs.quiet).now.txReady = false := by decide

/-- One next state for each phase the clauses speak of: `SEND`, `WAIT` and `IDLE`. -/
theorem witness_SendFrame :
    (∃ t, exec .sendRead (sending .readPpm 7 quiet) = .next t ∧ decide (t.st = .send) = true) ∧
    (∃ t, exec .sendRead (sending .readPpm 8 quiet) = .next t ∧ decide (t.st = .wait) = true) ∧
    (∃ t, exec .sendReset (sending .resetSensor 8 quiet) = .next t ∧ decide (t.st = .idle) = true) :=
  ⟨exists_next _ (by decide), exists_next _ (by decide), exists_next _ (by decide)⟩

theorem witness_PrimitivesOutsideTheirPhase :
    (idle quiet).st ≠ .send ∧ (sending .readPpm 0 quiet).opr.command ≠ .reset ∧ (idle quiet).st ≠ .check := by decide

theorem witness_WaitTimeout :
    (reading 1 21 20 (byteWaiting 1)).now.rst = false ∧ (reading 1 21 20 (byteWaiting 1)).st = .wait ∧
    (reading 1 21 20 (byteWaiting 1)).tmo < (reading 1 21 20 (byteWaiting 1)).elapsed := by decide

theorem witness_WaitReadFailure :
    (reading 1 20 20 { byteWaiting 1 with rxFail := true }).now.rst = false ∧
    (reading 1 20 20 { byteWaiting 1 with rxFail := true }).st = .wait ∧
    (reading 1 20 20 { byteWaiting 1 with rxFail := true }).elapsed ≤
      (reading 1 20 20 { byteWaiting 1 with rxFail := true }).tmo ∧
    (reading 1 20 20 { byteWaiting 1 with rxFail := true }).now.rxFail = true := by decide

/-- `ELAPSED = TMO` and `CNT = 8`, and the first byte. -/
theorem witness_WaitByte :
    ((reading 8 20 20 (byteWaiting 157)).now.rst = false ∧ (reading 8 20 20 (byteWaiting 157)).st = .wait ∧
      (reading 8 20 20 (byteWaiting 157)).elapsed ≤ (reading 8 20 20 (byteWaiting 157)).tmo ∧
      (reading 8 20 20 (byteWaiting 157)).now.rxFail = false ∧ (reading 8 20 20 (byteWaiting 157)).now.rxAvail = true ∧
      (reading 8 20 20 (byteWaiting 157)).cnt.toNat ≤ 8) ∧
    ((reading 0 0 20 (byteWaiting 255)).elapsed ≤ (reading 0 0 20 (byteWaiting 255)).tmo ∧
      (reading 0 0 20 (byteWaiting 255)).cnt.toNat ≤ 8) := by decide

theorem witness_WaitNoByte :
    (reading 1 20 20 quiet).now.rst = false ∧ (reading 1 20 20 quiet).st = .wait ∧
    (reading 1 20 20 quiet).elapsed ≤ (reading 1 20 20 quiet).tmo ∧ (reading 1 20 20 quiet).now.rxFail = false ∧
    (reading 1 20 20 quiet).now.rxAvail = false ∧ 0 < (reading 1 20 20 quiet).params.pollTicks ∧
    ({ reading 1 20 20 quiet with params := { p1 with pollTicks := 0 } } : State).params.pollTicks = 0 := by decide

theorem witness_SleepTick :
    ((sleeping 1 2 quiet).now.rst = false ∧ (sleeping 1 2 quiet).st = .sleep ∧ 1 ≤ (sleeping 1 2 quiet).slp) ∧
    1 ≤ (sleeping 2 1 quiet).slp := by decide

theorem witness_reading_quiet_inv : (reading 0 0 20 quiet).Inv :=
  ⟨by decide, by decide, by decide, by decide, by decide, by decide, by decide, by decide, by decide, by decide⟩

theorem witness_reading_inv (i : Inputs) : (reading 0 0 20 i).Inv := witness_reading_quiet_inv

theorem witness_ReaderBounded :
    (reading 0 0 20 quiet).Inv ∧ (reading 0 0 20 quiet).st = .wait ∧ (reading 0 0 20 quiet).elapsed = 0 :=
  ⟨witness_reading_inv _, by decide, by decide⟩

theorem witness_Extraction :
    exampleFrame.b0 = 0xFF ∧ exampleFrame.checksumMatches false = true ∧ exampleFrame.checksumMatches true = true := by decide

theorem witness_RoundTrip :
    exampleFrame.b0 = 0xFF ∧ exampleFrame.payloadSum % 256 ≠ 0 ∧
    (Frame.mk 255 1 0 255 0 0 0 0 0).b0 = 0xFF ∧ (Frame.mk 255 1 0 255 0 0 0 0 0).payloadSum % 256 = 0 := by decide

/-- An index of each kind: 0, 1, 7 and 8. -/
theorem witness_SingleByteMutation :
    exampleFrame.reading false = .ok exampleFrame.ppm exampleFrame.temperature ∧
    (0 ≤ 8 ∧ exampleFrame.get? 0 ≠ some 254) ∧ (1 ≤ 8 ∧ exampleFrame.get? 1 ≠ some 2) ∧
    (7 ≤ 8 ∧ exampleFrame.get? 7 ≠ some 255) ∧ (8 ≤ 8 ∧ exampleFrame.get? 8 ≠ some 0) := by decide

theorem witness_CheckValid :
    ((checking .readPpm exampleFrame).st = .check ∧ exampleFrame.b0 = 0xFF ∧
      exampleFrame.checksumMatches (checking .readPpm exampleFrame).params.cksumWrap = true) ∧
    (checking .readPpmTemp exampleFrame).opr = .readPpmTemp := by decide

theorem witness_CheckBadMarker :
    (checking .readPpm Frame.zero).st = .check ∧ Frame.zero.b0 ≠ 0xFF := by decide

theorem witness_CheckBadChecksum :
    (checking .readPpm { exampleFrame with b8 := 0 }).st = .check ∧ ({ exampleFrame with b8 := 0 } : Frame).b0 = 0xFF ∧
    ({ exampleFrame with b8 := 0 } : Frame).checksumMatches
      (checking .readPpm { exampleFrame with b8 := 0 }).params.cksumWrap = false := by decide

/-- An `OK` of `READ_PPM`, a `BAD_MARKER` and a `BAD_CHECKSUM`: each premise of the clauses, met and not met. -/
theorem witness_DecodeFrame :
    (∃ t, exec (.decode exampleFrame) (checking .readPpm exampleFrame) = .next t ∧ decide (t.status = .ok) = true) ∧
    (∃ t, exec (.decode Frame.zero) (checking .readPpm Frame.zero) = .next t ∧ decide (t.status = .badMarker) = true) ∧
    (∃ t, exec (.decode { exampleFrame with b8 := 0 }) (checking .readPpm exampleFrame) = .next t ∧
      decide (t.status = .badChecksum) = true) ∧
    (checking .readPpm exampleFrame).opr ≠ .readPpmTemp :=
  ⟨exists_next _ (by decide), exists_next _ (by decide), exists_next _ (by decide), by decide⟩

theorem witness_checking_inv : (checking .readPpm exampleFrame).Inv :=
  ⟨by decide, by decide, by decide, by decide, by decide, by decide, by decide, by decide, by decide, by decide⟩

theorem witness_sending_inv : (sending .resetSensor 8 quiet).Inv :=
  ⟨by decide, by decide, by decide, by decide, by decide, by decide, by decide, by decide, by decide, by decide⟩

/-- An ending from each phase that has one. -/
theorem witness_EveryEndingCompletes :
    (∃ t, step (checking .readPpm exampleFrame) = .next t ∧ decide (t.st = .idle) = true) ∧
    (∃ t, step (sending .resetSensor 8 quiet) = .next t ∧ decide (t.st = .idle) = true) ∧
    (∃ t, step (reading 1 21 20 quiet) = .next t ∧ decide (t.st = .idle) = true) ∧
    quiet.rst = false ∧ (checking .readPpm exampleFrame).st ≠ .idle ∧ (sending .resetSensor 8 quiet).st ≠ .idle ∧
    (checking .readPpm exampleFrame).Inv ∧ (sending .resetSensor 8 quiet).Inv :=
  ⟨exists_next _ (by decide), exists_next _ (by decide), exists_next _ (by decide), by decide, by decide, by decide,
    witness_checking_inv, witness_sending_inv⟩

theorem witness_ResetInv : Config.reference.wf ∧ p1.wf := by decide

theorem witness_StepKeepsInv :
    (reading 0 0 20 (byteWaiting 255)).Inv ∧
    ∃ t, step (reading 0 0 20 (byteWaiting 255)) = .next t ∧ decide (t.cnt = 1) = true :=
  ⟨witness_reading_inv _, exists_next _ (by decide)⟩

theorem witness_StepKeepsResultInv :
    (checking .readPpm exampleFrame).Inv ∧ (checking .readPpm exampleFrame).ResultInv ∧
    ∃ t, step (checking .readPpm exampleFrame) = .next t ∧ decide (t.status = .ok) = true :=
  ⟨witness_checking_inv,
    ⟨by decide, by decide, by decide, by decide, by decide, by decide, by decide, by decide, by decide, by decide⟩,
    exists_next _ (by decide)⟩

theorem witness_StepKeepsStreamInv :
    (sending .resetSensor 8 quiet).Inv ∧ (sending .resetSensor 8 quiet).StreamInv ∧
    (reading 0 0 20 quiet).StreamInv ∧
    ∃ t, step (sending .resetSensor 8 quiet) = .next t ∧ decide (t.status = .ok) = true :=
  ⟨witness_sending_inv, by decide, by decide, exists_next _ (by decide)⟩

theorem witness_StepKeepsTimerInv :
    (reading 0 0 7 (byteWaiting 255)).Inv ∧ (reading 0 0 7 (byteWaiting 255)).TimerInv ∧
    (reading 0 0 7 (byteWaiting 255)).tmo < 8 ∧ (reading 0 0 7 (byteWaiting 255)).st ≠ .idle ∧
    ∃ t, step (reading 0 0 7 (byteWaiting 255)) = .next t ∧ decide (t.cnt = 1) = true :=
  ⟨⟨by decide, by decide, by decide, by decide, by decide, by decide, by decide, by decide, by decide, by decide⟩,
    by decide, by decide, by decide, exists_next _ (by decide)⟩

theorem witness_NeverStops : (reading 0 0 20 quiet).Inv ∧ (idle quiet).Inv :=
  ⟨witness_reading_inv _, witness_idle_inv _⟩

theorem witness_Transitions :
    (∃ t, step (sleeping 1 2 quiet) = .next t ∧ decide (t.st = .wait) = true) ∧
    (∃ t, step (reading 1 3 20 { quiet with rst := true }) = .next t ∧ decide (t.st = .idle) = true) :=
  ⟨exists_next _ (by decide), exists_next _ (by decide)⟩

theorem witness_PortsAndStreams :
    (∃ t, step (sending .readPpm 0 quiet) = .next t ∧ decide (t.txStream = [255]) = true) ∧
    (sending .readPpm 0 quiet).outputs.txPush = true ∧ (reading 0 0 20 (byteWaiting 255)).outputs.rxPop = true ∧
    (idle quiet).outputs.txPush = false :=
  ⟨exists_next _ (by decide), by decide, by decide, by decide⟩

theorem witness_ParametersNeverChange :
    ∃ t, step (idle quiet) = .next t ∧ decide (t.params = p1 ∧ t.script = [] ∧ t.tick = 1) = true :=
  exists_next _ (by decide)

/-- The two ends of the numbers that exist, and the first that does not; a temperature of each sign. -/
theorem witness_ReadOutWidths :
    (checking .readPpm exampleFrame).Inv ∧ (checking .readPpm exampleFrame).readReg 0 = some 20 ∧ 7 ≤ 7 ∧
    (checking .readPpm exampleFrame).readReg 7 = some 1 ∧ 8 ≤ 8 ∧ (checking .readPpm exampleFrame).readReg 8 = none ∧
    0 ≤ (23 : BitVec 9).toInt ∧ ¬ 0 ≤ (0x1D8 : BitVec 9).toInt :=
  ⟨witness_checking_inv, by decide, by decide, by decide, by decide, by decide, by decide, by decide⟩

/-- A whole `RESET_SENSOR`: one start and nine ready ticks. -/
def sendOnlyRun : State :=
  { State.resetWith p1 with script := starting 2 :: (List.replicate 9 quiet ++ [quiet]) }

theorem witness_SendOnlyOperation :
    sendOnlyRun.Inv ∧ sendOnlyRun.st = .idle ∧ HostOp.isRead .resetSensor = false ∧
    sendOnlyRun.script = starting 2 :: (List.replicate 9 quiet ++ [quiet]) ∧
    (starting 2).rst = false ∧ (starting 2).start = true ∧ (starting 2).op = HostOp.resetSensor.code.setWidth 3 ∧
    (List.replicate 9 quiet).length = 9 ∧
    (∀ i ∈ List.replicate 9 quiet, i.rst = false ∧ i.txFail = false ∧ i.txReady = true) :=
  ⟨⟨by decide, by decide, by decide, by decide, by decide, by decide, by decide, by decide, by decide, by decide⟩,
    by decide, by decide, rfl, by decide, by decide, by decide, by decide, by decide⟩

/-- A whole `READ_PPM_TEMP` of the example frame, with the least timeout that can succeed (V-R1). -/
def readRun : State :=
  { State.resetWith p1 with
    timeout := 8
    script := starting 1 :: (List.replicate 9 quiet ++ (exampleFrame.toBytes.map byteWaiting ++ quiet :: [])) }

theorem witness_ReadOperation :
    readRun.Inv ∧ readRun.st = .idle ∧ HostOp.isRead .readPpmTemp = true ∧ 8 ≤ readRun.timeout ∧
    readRun.script = starting 1 :: (List.replicate 9 quiet ++ (exampleFrame.toBytes.map byteWaiting ++ quiet :: [])) ∧
    (starting 1).rst = false ∧ (starting 1).start = true ∧ (starting 1).op = HostOp.readPpmTemp.code.setWidth 3 ∧
    (List.replicate 9 quiet).length = 9 ∧
    (∀ i ∈ List.replicate 9 quiet, i.rst = false ∧ i.txFail = false ∧ i.txReady = true) ∧
    (exampleFrame.toBytes.map byteWaiting).map (·.rxData) = exampleFrame.toBytes ∧
    (∀ i ∈ exampleFrame.toBytes.map byteWaiting, i.rst = false ∧ i.rxFail = false ∧ i.rxAvail = true) ∧
    quiet.rst = false :=
  ⟨⟨by decide, by decide, by decide, by decide, by decide, by decide, by decide, by decide, by decide, by decide⟩,
    by decide, by decide, by decide, rfl, by decide, by decide, by decide, by decide, by decide, by decide, by decide,
    by decide⟩

theorem witness_QueueConserved :
    ∃ c, ({ block := reading 1 11 20 quiet, transport := { queue := [0] } } : Bench).tick [157] quiet = .next c ∧
      c.transport.queue = [157] := ⟨_, rfl, by decide⟩

end Sys2Proof.Tests
end

/-!
SUPPORT. The words of a frame and of the opcode table: what `decode` and `decodeTableWord` accept, by format
(spec 00_scope.md R10, 30_encoding.md R53, R54, R56).
-/
namespace Sys2Proof

/-- The bits of `W(f)` as those of the nine bytes put together. The width is written out as the concatenation's own, which
the lemmas on concatenations match on. -/
theorem Frame.extractLsb'_toWord (f : Frame) (k : Nat) :
    f.toWord.extractLsb' k 8 = BitVec.extractLsb' (n := 8 + 8 + 8 + 8 + 8 + 8 + 8 + 8 + 8) k 8
      (f.b0 ++ f.b1 ++ f.b2 ++ f.b3 ++ f.b4 ++ f.b5 ++ f.b6 ++ f.b7 ++ f.b8) := rfl

/-- Reading `W(f)` back gives the frame: byte `i` sits in bits `71-8i` to `64-8i` (R10). -/
theorem Frame.ofWord_toWord (f : Frame) : Frame.ofWord f.toWord = f := by
  simp only [Frame.ofWord, Frame.extractLsb'_toWord, BitVec.extractLsb'_append_eq_right, BitVec.extractLsb'_eq_self,
    BitVec.extractLsb'_append_eq_of_le, Nat.reduceLeDiff, Nat.reduceSub]

theorem tableBytes_toWord (f : Frame) : tableBytes 72 f.toWord.toNat = f.toBytes := by
  unfold tableBytes
  rw [if_neg (by decide), if_pos rfl, if_pos f.toWord.isLt, BitVec.ofNat_toNat, BitVec.setWidth_eq, Frame.ofWord_toWord]

@[simp] theorem answered_eq_some {r : Except DecodeError Instr} {i : Instr} : answered r = some i ↔ r = .ok i := by
  cases r <;> simp [answered]

@[simp] theorem decode_rsp_toBytes (f : Frame) : decode .rsp f.toBytes = .ok (.decode f) := rfl

/-- Format `CMD` on nine bytes: the three constants and nothing else (R54, R58 e). -/
theorem decode_cmd_toBytes (f : Frame) :
    decode .cmd f.toBytes =
      if f = cmdRom .read then .ok .sendRead
      else if f = cmdRom .reset then .ok .sendReset
      else if f = cmdRom .abcoff then .ok .sendAbcoff
      else .error .notACommand := by
  simp only [decode, decodeCmd, Frame.ofBytes_toBytes]

/-- Format `OP3` accepts one byte holding the code of a host operation (R56). -/
theorem decode_op3_eq_ok {bytes : List Byte} {i : Instr} (h : decode .op3 bytes = .ok i) :
    ∃ op : HostOp, bytes = [op.code.setWidth 8] ∧ i = op.instr := by
  simp only [decode, decodeOp3] at h
  split at h
  · next b =>
    split_ifs at h with h0 h1 h2 h3 <;> cases h
    · exact ⟨.readPpm, by rw [h0]; rfl, rfl⟩
    · exact ⟨.readPpmTemp, by rw [h1]; rfl, rfl⟩
    · exact ⟨.resetSensor, by rw [h2]; rfl, rfl⟩
    · exact ⟨.disableAbc, by rw [h3]; rfl, rfl⟩
  · cases h

/-- Format `CMD` accepts the `SEND` form of a command. -/
theorem decode_cmd_eq_ok {bytes : List Byte} {i : Instr} (h : decode .cmd bytes = .ok i) :
    ∃ c : Command, bytes = (cmdRom c).toBytes ∧ i = c.instr := by
  cases hf : Frame.ofBytes bytes with
  | none => simp [decode, decodeCmd, hf] at h
  | some f =>
    obtain rfl := Frame.ofBytes_eq_some hf
    rw [decode_cmd_toBytes] at h
    split_ifs at h with h0 h1 h2 <;> cases h
    · exact ⟨.read, by rw [h0], rfl⟩
    · exact ⟨.reset, by rw [h1], rfl⟩
    · exact ⟨.abcoff, by rw [h2], rfl⟩

/-- Format `RSP` accepts nine bytes, as the operand of a `DECODE` (R53). -/
theorem decode_rsp_eq_ok {bytes : List Byte} {i : Instr} (h : decode .rsp bytes = .ok i) :
    ∃ f : Frame, bytes = f.toBytes ∧ i = .decode f := by
  cases hf : Frame.ofBytes bytes with
  | none => simp [decode, decodeRsp, hf] at h
  | some f =>
    obtain rfl := Frame.ofBytes_eq_some hf
    cases h
    exact ⟨f, rfl, rfl⟩

/-- A table word of one byte is an `OP3` word, numbered on three or on eight bits, and its number is the byte. -/
theorem tableBytes_eq_singleton {nbits w : Nat} {b : Byte} (h : tableBytes nbits w = [b]) :
    (nbits = 3 ∨ nbits = 8) ∧ w = b.toNat := by
  unfold tableBytes at h
  split_ifs at h with hn hw hn hw
  · obtain rfl : BitVec.ofNat 8 w = b := by simpa using h
    exact ⟨hn, by simp; omega⟩
  · simp [Frame.toBytes] at h

/-- Everything a word of the table can be read as: a command or a `DECODE` on 72 bits, a host operation by its code. -/
theorem decodeTableWord_eq_some {nbits w : Nat} {i : Instr} (h : decodeTableWord nbits w = some i) :
    (nbits = 72 ∧ ∃ c : Command, i = c.instr) ∨
    (nbits = 72 ∧ ∃ f : Frame, i = .decode f) ∨
    ((nbits = 3 ∨ nbits = 8) ∧ ∃ op : HostOp, w = op.code.toNat ∧ i = op.instr) := by
  unfold decodeTableWord at h
  split at h
  · next h72 =>
    split at h
    · next j hj =>
      obtain rfl : j = i := by simpa using h
      obtain ⟨c, -, hc⟩ := decode_cmd_eq_ok hj
      exact .inl ⟨h72, c, hc⟩
    · obtain ⟨f, -, hf⟩ := decode_rsp_eq_ok (answered_eq_some.mp h)
      exact .inr (.inl ⟨h72, f, hf⟩)
  · obtain ⟨op, hb, hi⟩ := decode_op3_eq_ok (answered_eq_some.mp h)
    obtain ⟨hn, hw⟩ := tableBytes_eq_singleton hb
    exact .inr (.inr ⟨hn, op, by rw [hw]; cases op <;> rfl, hi⟩)

theorem HostOp.code_lt (op : HostOp) : op.code.toNat < 4 := op.code.isLt

/-- The frame's word is read as the command it is, or else as its `DECODE`. -/
theorem decodeTableWord_toWord (f : Frame) :
    decodeTableWord 72 f.toWord.toNat =
      some (if f = cmdRom .read then .sendRead
        else if f = cmdRom .reset then .sendReset
        else if f = cmdRom .abcoff then .sendAbcoff
        else .decode f) := by
  unfold decodeTableWord
  rw [if_pos rfl, tableBytes_toWord, decode_cmd_toBytes, decode_rsp_toBytes]
  split_ifs <;> rfl

theorem decodeTableWord_code (op : HostOp) : decodeTableWord 8 op.code.toNat = some op.instr := by
  cases op <;> rfl

theorem decodeTableWord_of_four_le {w : Nat} (hw : 4 ≤ w) : decodeTableWord 8 w = none := by
  rw [Option.eq_none_iff_forall_ne_some]
  intro i h
  obtain ⟨h72, -⟩ | ⟨h72, -⟩ | ⟨-, op, rfl, -⟩ := decodeTableWord_eq_some h
  · omega
  · omega
  · have := op.code_lt
    omega

/-- Settles O3: a frame survives its 72-bit word, and a readable 8-bit word is the code of a host operation. -/
theorem tableWordsDecode : Obligations.TableWordsDecode :=
  ⟨decodeTableWord_toWord, decodeTableWord_code, fun _ => decodeTableWord_of_four_le⟩

end Sys2Proof

/-!
SUPPORT. The tick that runs a word (00_scope.md R12), and the placing of a table word before it (log 11).
-/
namespace Sys2Proof.Machine

/-- A tick without reset that presents a decodable word runs the decoded instruction (R12; log 10). -/
theorem step_word {s : State} {fmt : Format} {bytes : List Byte} {i : Instr} (hr : s.now.rst = false)
    (hw : s.work = .word fmt bytes) (hd : decode fmt bytes = .ok i) : step s = endOfTick s.now (exec i s) := by
  have hp : phaseTick s = exec i s := by simp only [phaseTick, hw, runWord, hd]
  rw [step_phase hr, hp]

/-- Settles O5: `Instr.wf` excludes nothing (log 12), so `step_word` says it. -/
theorem stepRunsDecodedInstruction : Obligations.StepRunsDecodedInstruction :=
  fun _ _ _ _ hr hw hd _ => step_word hr hw hd

/-! ### The three placings -/

section
variable (s : State)

theorem State.work_placeOp (op : BitVec 3) : (s.placeOp op).work = .word .op3 [op.setWidth 8] := rfl

theorem State.placeCommand_command (c : Command) : (s.placeCommand c).opr.command = c := by
  unfold State.placeCommand
  split
  · assumption
  · cases c <;> rfl

theorem State.work_placeCommand (c : Command) : (s.placeCommand c).work = .word .cmd (cmdRom c).toBytes := by
  have h : (s.placeCommand c).work = .word .cmd (cmdRom (s.placeCommand c).opr.command).toBytes := rfl
  rw [h, s.placeCommand_command]

theorem State.work_placeFrame (f : Frame) : (s.placeFrame f).work = .word .rsp f.toBytes := rfl

theorem State.withFetchWord_op (op : HostOp) {nbits : Nat} (h : nbits = 3 ∨ nbits = 8) :
    s.withFetchWord nbits op.code.toNat = s.placeOp (op.code.setWidth 3) := by
  have h72 : nbits ≠ 72 := by omega
  have h8 : op.code.toNat < 8 := by have := op.code_lt; omega
  unfold State.withFetchWord State.placeWord
  rw [if_neg h72, if_pos ⟨h, h8⟩, BitVec.ofNat_toNat]

theorem State.withFetchWord_command {w : Nat} {c : Command} (h : decodeTableWord 72 w = some c.instr) :
    s.withFetchWord 72 w = s.placeCommand c := by
  unfold State.withFetchWord State.placeWord
  rw [if_pos rfl, h]
  cases c <;> rfl

theorem State.withFetchWord_frame {w : Nat} {f : Frame} (h : decodeTableWord 72 w = some (.decode f)) :
    s.withFetchWord 72 w = s.placeFrame f := by
  unfold State.withFetchWord State.placeWord
  rw [if_pos rfl, h]

end

/-- Settles O6, by the three kinds of table word: each placing presents the word in its phase, with reset low. -/
theorem placedWordRuns : Obligations.PlacedWordRuns := by
  intro s nbits w i h
  obtain ⟨rfl, c, rfl⟩ | ⟨rfl, f, rfl⟩ | ⟨hn, op, rfl, rfl⟩ := decodeTableWord_eq_some h
  · rw [s.withFetchWord_command h]
    exact step_word rfl (s.work_placeCommand c) (decode_cmdRom c)
  · rw [s.withFetchWord_frame h]
    exact step_word rfl (s.work_placeFrame f) (decode_rsp_toBytes f)
  · rw [s.withFetchWord_op op hn]
    exact step_word rfl (s.work_placeOp _) (decode_op_code op)

/-- Settles O26: the guards of `sendTick` and `execDecode`. -/
theorem primitivesOutsideTheirPhase : Obligations.PrimitivesOutsideTheirPhase := by
  refine ⟨fun c s h => ?_, fun f s h => ?_⟩
  · rw [exec_command]
    exact sendTick_outside (by tauto)
  · exact if_neg h

/-! ### No tick stops -/

/-- `CMDROM` has a byte for every `TXI` up to 8 (R36). -/
theorem exists_sendTick_next {s : State} (hst : s.st = .send) (htxi : s.txi.toNat ≤ 8) :
    ∃ m, sendTick s.opr.command s = .next m := by
  obtain ⟨-, e⟩ | ⟨-, -, e⟩ | ⟨-, -, h8, -⟩ | ⟨-, -, b, -, ⟨-, e⟩ | ⟨-, e⟩⟩ := sendTick_cases hst rfl
  · exact ⟨_, e⟩
  · exact ⟨_, e⟩
  · omega
  · exact ⟨_, e⟩
  · exact ⟨_, e⟩

/-- `BUF` has an entry for every `CNT` up to 8 (R16). -/
theorem exists_waitTick_next {s : State} (hcnt : s.cnt.toNat ≤ 8) : ∃ m, waitTick s = .next m := by
  obtain ⟨-, e⟩ | ⟨-, -, e⟩ | ⟨-, -, -, -, e⟩ | ⟨-, -, -, h8, -⟩ | ⟨-, -, -, e⟩ := waitTick_cases s
  · exact ⟨_, e⟩
  · exact ⟨_, e⟩
  · exact ⟨_, e⟩
  · omega
  · exact ⟨_, e⟩

theorem exists_sleepTick_next {s : State} (hslp : 1 ≤ s.slp) : ∃ m, sleepTick s = .next m := by
  obtain ⟨h0, -⟩ | ⟨-, e⟩ := sleepTick_cases s
  · omega
  · exact ⟨_, e⟩

/-- Under the table of R38 the rule of every phase answers. -/
theorem exists_phaseTick_next {s : State} (h : s.PhaseInv) : ∃ m, phaseTick s = .next m := by
  obtain ⟨-, hsend, hwait, hsleep, -⟩ := h
  cases hst : s.st with
  | idle =>
    cases hs : s.now.start with
    | false => exact ⟨s, phaseTick_rest hst hs⟩
    | true =>
      obtain ⟨o, -, e⟩ | ⟨-, e⟩ := phaseTick_start hst hs
      · exact ⟨_, e⟩
      · exact ⟨_, e⟩
  | send =>
    obtain ⟨-, htxi, -⟩ := hsend hst
    rw [phaseTick_send hst]
    exact exists_sendTick_next hst htxi
  | wait =>
    obtain ⟨-, hcnt, -⟩ := hwait hst
    rw [phaseTick_wait hst]
    exact exists_waitTick_next hcnt
  | sleep =>
    obtain ⟨-, -, -, hslp, -⟩ := hsleep hst
    rw [phaseTick_sleep hst]
    exact exists_sleepTick_next hslp
  | check => exact ⟨_, phaseTick_check hst⟩

/-- Settles O50: a reset always answers, and under the invariant so does the rule of the phase. -/
theorem neverStops : Obligations.NeverStops := by
  rintro s ⟨-, hphase⟩
  cases hr : s.now.rst with
  | true => exact ⟨_, step_rst hr⟩
  | false =>
    obtain ⟨m, hm⟩ := exists_phaseTick_next hphase
    exact ⟨_, by rw [step_phase hr, hm, endOfTick_next]⟩

/-! ### The model's own fields -/

/-- The parameters, the script and the tick count of `s` are those of `t` (logs 1, 2). -/
def SameRecord (s t : State) : Prop := t.params = s.params ∧ t.script = s.script ∧ t.tick = s.tick

theorem lastByteSent_sameRecord (s : State) : SameRecord s (lastByteSent s) := by
  unfold lastByteSent
  split <;> exact ⟨rfl, rfl, rfl⟩

theorem finishReading_sameRecord (r : Reading) (s : State) : SameRecord s (finishReading r s) := by
  cases r <;> simp [SameRecord, finishReading]

theorem sendTick_sameRecord {c : Command} {s m : State} (h : sendTick c s = .next m) : SameRecord s m := by
  obtain ⟨-, -, ⟨-, rfl⟩ | ⟨-, -, rfl⟩ | ⟨-, -, b, -, ⟨-, rfl⟩ | ⟨-, rfl⟩⟩⟩ := sendTick_next h
  · exact ⟨rfl, rfl, rfl⟩
  · exact ⟨rfl, rfl, rfl⟩
  · exact lastByteSent_sameRecord (s.txPush b)
  · exact ⟨rfl, rfl, rfl⟩

theorem waitTick_sameRecord {s m : State} (h : waitTick s = .next m) : SameRecord s m := by
  obtain ⟨-, e⟩ | ⟨-, -, e⟩ | ⟨-, -, -, -, e⟩ | ⟨-, -, -, -, e⟩ | ⟨-, -, -, e⟩ := waitTick_cases s <;>
    rw [e] at h <;> cases h <;> simp [SameRecord]

/-- The rule of a phase writes none of the model's own fields. -/
theorem phaseTick_sameRecord {s m : State} (h : phaseTick s = .next m) : SameRecord s m := by
  obtain ⟨-, -, rfl⟩ | ⟨-, -, o, -, rfl⟩ | ⟨-, -, -, rfl⟩ | ⟨-, e⟩ | ⟨-, e⟩ | ⟨-, -, rfl⟩ | ⟨-, rfl⟩ :=
    phaseTick_next h
  · exact ⟨rfl, rfl, rfl⟩
  · exact ⟨rfl, rfl, rfl⟩
  · exact ⟨rfl, rfl, rfl⟩
  · exact sendTick_sameRecord e
  · exact waitTick_sameRecord e
  · exact ⟨rfl, rfl, rfl⟩
  · exact finishReading_sameRecord _ s

/-- Settles O53: only the end of the tick writes the model's own fields. -/
theorem parametersNeverChange : Obligations.ParametersNeverChange := by
  intro s t h
  obtain ⟨-, rfl⟩ | ⟨-, m, hm, rfl⟩ := step_next h
  · exact ⟨rfl, rfl, rfl⟩
  · obtain ⟨hparams, hscript, htick⟩ := phaseTick_sameRecord hm
    simp [hparams, hscript, htick]

end Sys2Proof.Machine

/-!
SUPPORT. Every way the rule of a phase can answer, flattened to one relation: the invariants, the frames and the ports of a
tick are proved by a case split over it.
-/
namespace Sys2Proof.Machine

/-- The rule of the phase takes `s` to a next state: one constructor for each branch of R62, R69, R70, R81 and R86 to R88
that answers. -/
inductive PhaseStep (s : State) : State → Prop
  | rest (hst : s.st = .idle) (hs : s.now.start = false) : PhaseStep s s
  | accept (hst : s.st = .idle) (hs : s.now.start = true) (op : HostOp) (hop : s.now.op = op.code.setWidth 3) :
      PhaseStep s (s.acceptStart op)
  | refuse (hst : s.st = .idle) (hs : s.now.start = true) (hop : 4 ≤ s.now.op.toNat) : PhaseStep s s.refuseStart
  | sendFail (hst : s.st = .send) (hf : s.now.txFail = true) : PhaseStep s (s.complete .xportWrFail)
  | sendStall (hst : s.st = .send) (hf : s.now.txFail = false) (hr : s.now.txReady = false) : PhaseStep s s
  | sendByte (hst : s.st = .send) (hf : s.now.txFail = false) (hr : s.now.txReady = true) (b : Byte)
      (hb : cmdByte s.opr.command s.txi.toNat = some b) (h8 : s.txi.toNat < 8) :
      PhaseStep s (s.txPush b).nextCommandByte
  | sendLastOfRead (hst : s.st = .send) (hf : s.now.txFail = false) (hr : s.now.txReady = true) (b : Byte)
      (hb : cmdByte s.opr.command s.txi.toNat = some b) (h8 : s.txi = 8) (hread : s.opr.isRead = true) :
      PhaseStep s (s.txPush b).enterReader
  | sendLastOfSendOnly (hst : s.st = .send) (hf : s.now.txFail = false) (hr : s.now.txReady = true) (b : Byte)
      (hb : cmdByte s.opr.command s.txi.toNat = some b) (h8 : s.txi = 8) (hread : s.opr.isRead = false) :
      PhaseStep s ((s.txPush b).complete .ok)
  | waitTimeout (hst : s.st = .wait) (ht : s.tmo < s.elapsed) : PhaseStep s (s.complete .readTimeout)
  | waitFail (hst : s.st = .wait) (ht : s.elapsed ≤ s.tmo) (hf : s.now.rxFail = true) :
      PhaseStep s (s.complete .xportRdFail)
  | waitByte (hst : s.st = .wait) (ht : s.elapsed ≤ s.tmo) (hf : s.now.rxFail = false) (ha : s.now.rxAvail = true)
      (h8 : s.cnt.toNat < 8) : PhaseStep s ((s.rxPop s.now.rxData).countTick.goto .wait)
  | waitLastByte (hst : s.st = .wait) (ht : s.elapsed ≤ s.tmo) (hf : s.now.rxFail = false) (ha : s.now.rxAvail = true)
      (h8 : s.cnt = 8) : PhaseStep s ((s.rxPop s.now.rxData).countTick.goto .check)
  | waitEmpty (hst : s.st = .wait) (ht : s.elapsed ≤ s.tmo) (hf : s.now.rxFail = false) (ha : s.now.rxAvail = false) :
      PhaseStep s s.countTick.pause
  | sleep (hst : s.st = .sleep) (hslp : 1 ≤ s.slp) : PhaseStep s s.countTick.sleepOn
  | checkOk (hst : s.st = .check) (ppm : BitVec 16) (temperature : BitVec 9)
      (hrd : s.buf.reading s.params.cksumWrap = .ok ppm temperature) :
      PhaseStep s ((s.recordReading ppm temperature).complete .ok)
  | checkMarker (hst : s.st = .check) (hrd : s.buf.reading s.params.cksumWrap = .badMarker) :
      PhaseStep s (s.complete .badMarker)
  | checkChecksum (hst : s.st = .check) (received : Byte) (calculated : BitVec 9)
      (hrd : s.buf.reading s.params.cksumWrap = .badChecksum received calculated) :
      PhaseStep s ((s.recordChecksum received calculated).complete .badChecksum)

theorem sendTick_phaseStep {s m : State} (h : sendTick s.opr.command s = .next m) : PhaseStep s m := by
  obtain ⟨hst, -, ⟨hf, rfl⟩ | ⟨hf, hr, rfl⟩ | ⟨hf, hr, b, hb, ⟨h8, rfl⟩ | ⟨h8, rfl⟩⟩⟩ := sendTick_next h
  · exact .sendFail hst hf
  · exact .sendStall hst hf hr
  · unfold lastByteSent
    split
    · next hread => exact .sendLastOfRead hst hf hr b hb h8 hread
    · next hread => exact .sendLastOfSendOnly hst hf hr b hb h8 (by simpa using hread)
  · exact .sendByte hst hf hr b hb h8

theorem waitTick_phaseStep {s m : State} (hst : s.st = .wait) (h : waitTick s = .next m) : PhaseStep s m := by
  obtain ⟨ht, e⟩ | ⟨ht, hf, e⟩ | ⟨ht, hf, ha, h8, e⟩ | ⟨-, -, -, -, e⟩ | ⟨ht, hf, ha, e⟩ := waitTick_cases s <;>
    rw [e] at h <;> cases h
  · exact .waitTimeout hst ht
  · exact .waitFail hst ht hf
  · split
    · next hc => exact .waitLastByte hst ht hf ha hc
    · next hc =>
      have hne : s.cnt.toNat ≠ 8 := fun e => hc (BitVec.eq_of_toNat_eq e)
      exact .waitByte hst ht hf ha (by omega)
  · exact .waitEmpty hst ht hf ha

theorem finishReading_phaseStep {s : State} (hst : s.st = .check) :
    PhaseStep s (finishReading (s.buf.reading s.params.cksumWrap) s) := by
  cases hrd : s.buf.reading s.params.cksumWrap with
  | ok ppm temperature => exact .checkOk hst ppm temperature hrd
  | badMarker => exact .checkMarker hst hrd
  | badChecksum received calculated => exact .checkChecksum hst received calculated hrd

theorem phaseTick_phaseStep {s m : State} (h : phaseTick s = .next m) : PhaseStep s m := by
  obtain ⟨hst, hs, rfl⟩ | ⟨hst, hs, op, hop, rfl⟩ | ⟨hst, hs, hop, rfl⟩ | ⟨-, e⟩ | ⟨hst, e⟩ | ⟨hst, hslp, rfl⟩ |
    ⟨hst, rfl⟩ := phaseTick_next h
  · exact .rest hst hs
  · exact .accept hst hs op hop
  · exact .refuse hst hs hop
  · exact sendTick_phaseStep e
  · exact waitTick_phaseStep hst e
  · exact .sleep hst hslp
  · exact finishReading_phaseStep hst

/-- A step is a reset, or a rule of the phase with the end of the tick. -/
theorem step_cases {s t : State} (h : step s = .next t) :
    (s.now.rst = true ∧ t = s.hardwareReset.nextTick) ∨
    (s.now.rst = false ∧ ∃ m, PhaseStep s m ∧ t = (m.configure s.now).nextTick) := by
  obtain hreset | ⟨hr, m, hm, ht⟩ := step_next h
  · exact .inl hreset
  · exact .inr ⟨hr, m, phaseTick_phaseStep hm, ht⟩

/-! ### What the rules leave -/

theorem PhaseStep.params_eq {s m : State} (h : PhaseStep s m) : m.params = s.params := by
  cases h <;> simp

theorem PhaseStep.timeout_eq {s m : State} (h : PhaseStep s m) : m.timeout = s.timeout := by
  cases h <;> simp

theorem toNat_opPort_le (op : HostOp) : (op.code.setWidth 3).toNat ≤ 3 := by
  cases op <;> decide

/-- `TMO` is latched by an accepted start (R34). -/
theorem PhaseStep.tmo_eq {s m : State} (h : PhaseStep s m) :
    m.tmo = if s.st = .idle ∧ s.now.start = true ∧ s.now.op.toNat ≤ 3 then s.timeout else s.tmo := by
  cases h with
  | accept hst hs op hop => rw [if_pos ⟨hst, hs, hop ▸ toNat_opPort_le op⟩, State.acceptStart_tmo]
  | refuse hst hs hop => rw [if_neg (by omega), State.refuseStart_tmo]
  | _ => simp [*]

/-- `ELAPSED` is cleared, kept, or counted (R33). -/
theorem PhaseStep.elapsed_cases {s m : State} (h : PhaseStep s m) :
    m.elapsed = 0 ∨ m.elapsed = s.elapsed ∨ m.elapsed = satElapsed s.params (s.elapsed + 1) := by
  cases h <;> simp

/-- The sequencer's moves (R18). -/
theorem PhaseStep.leads {s m : State} (h : PhaseStep s m) : s.st.Leads m.st := by
  cases h with
  | waitEmpty hst => by_cases hp : s.params.pollTicks > 0 <;> simp [Phase.Leads, hst, hp]
  | sleep hst => by_cases hp : s.slp = 1 <;> simp [Phase.Leads, hst, hp]
  | _ => simp [Phase.Leads, *]

/-- Settles O9: no rule of a phase writes `TIMEOUT`, so the configuration write is all there is. -/
theorem timeoutWrittenByHostOnly : Obligations.TimeoutWrittenByHostOnly := by
  intro s t h hr
  obtain ⟨hr', -⟩ | ⟨-, m, hm, rfl⟩ := step_cases h
  · rw [hr] at hr'; cases hr'
  · simp [hm.timeout_eq, hm.params_eq, cfgValue]

/-- Settles O10: `hardwareReset` clears `TMO` and only an accepted start latches it. -/
theorem tmoWrittenByStartOnly : Obligations.TmoWrittenByStartOnly := by
  intro s t h
  obtain ⟨hr, rfl⟩ | ⟨hr, m, hm, rfl⟩ := step_cases h
  · simp [hr]
  · simp [hr, hm.tmo_eq]

/-- Settles O51: reset leads to `IDLE`, and every rule of a phase is one of the moves of R18. -/
theorem transitions : Obligations.Transitions := by
  intro s t h
  obtain ⟨hr, rfl⟩ | ⟨hr, m, hm, rfl⟩ := step_cases h
  · simp [hr]
  · simpa [hr] using hm.leads

end Sys2Proof.Machine

/-!
SUPPORT. The table of R38 read one row at a time, and the invariants kept by every rule of a phase and by reset.
-/
namespace Sys2Proof.Machine

section
variable {s : State}

/-! ### The rows of the table -/

/-- The counters and the buffer are at their reset values: the `IDLE` row of R38. -/
abbrev State.AtRest (s : State) : Prop :=
  s.cnt = 0 ∧ s.txi = 0 ∧ s.elapsed = 0 ∧ s.slp = 0 ∧ s.buf = Frame.zero

/-- The results of an operation that has not ended (R86, R96). -/
abbrev State.Running (s : State) : Prop := s.done = false ∧ s.status = .none ∧ s.NoResults

/-- The entries of `BUF` that have not been stored yet are 0 (R38). -/
def State.BufTailZero (s : State) : Prop := ∀ i < 9, s.cnt.toNat ≤ i → s.buf.get? i = some 0

theorem State.bufTailZero_of_zero (h : s.buf = Frame.zero) : s.BufTailZero := by
  intro i hi _
  rw [h, Frame.get?_zero hi]

theorem State.toNat_cnt_add_one (hc : s.cnt.toNat ≤ 8) : (s.cnt + 1).toNat = s.cnt.toNat + 1 := by
  bv_omega

/-- Storing a byte at `CNT` leaves the entries above it. -/
theorem State.bufTailZero_rxPop (b : Byte) (h : s.BufTailZero) (hc : s.cnt.toNat ≤ 8) : (s.rxPop b).BufTailZero := by
  intro i hi hle
  rw [State.rxPop_cnt, State.toNat_cnt_add_one hc] at hle
  rw [State.rxPop_buf, Frame.get?_set, if_neg (by omega)]
  exact h i hi (by omega)

/-- In a known phase the table is that phase's row; the other rows ask nothing. The four lemmas after this one say it of the
busy phases, where an operation is running. -/
theorem State.phaseInv_iff_of_idle (hst : s.st = .idle) :
    s.PhaseInv ↔ s.AtRest ∧ s.BufTailZero ∧ (s.done = false → s.status = .none ∧ s.NoResults) := by
  simp [State.PhaseInv, State.AtRest, State.BufTailZero, hst]

theorem State.phaseInv_iff_of_send (hst : s.st = .send) :
    s.PhaseInv ↔
      (s.cnt = 0 ∧ s.txi.toNat ≤ 8 ∧ s.elapsed = 0 ∧ s.slp = 0 ∧ s.buf = Frame.zero) ∧ s.BufTailZero ∧ s.Running := by
  grind [State.BufTailZero]

theorem State.phaseInv_iff_of_wait (hst : s.st = .wait) :
    s.PhaseInv ↔
      (s.opr.isRead = true ∧ s.cnt.toNat ≤ 8 ∧ s.txi = 0 ∧ s.slp = 0) ∧ s.BufTailZero ∧ s.Running := by
  grind [State.BufTailZero]

theorem State.phaseInv_iff_of_sleep (hst : s.st = .sleep) :
    s.PhaseInv ↔
      (s.opr.isRead = true ∧ s.cnt.toNat ≤ 8 ∧ s.txi = 0 ∧ 1 ≤ s.slp ∧ s.slp ≤ s.params.pollTicks) ∧
        s.BufTailZero ∧ s.Running := by
  grind [State.BufTailZero]

theorem State.phaseInv_iff_of_check (hst : s.st = .check) :
    s.PhaseInv ↔
      (s.opr.isRead = true ∧ s.cnt = 9 ∧ s.txi = 0 ∧ s.slp = 0) ∧ s.BufTailZero ∧ s.Running := by
  grind [State.BufTailZero]

theorem State.PhaseInv.running (h : s.PhaseInv) (hst : s.st ≠ .idle) : s.Running := by
  cases hp : s.st with
  | idle => exact absurd hp hst
  | send =>
    obtain ⟨-, -, hrun⟩ := (State.phaseInv_iff_of_send hp).mp h
    exact hrun
  | wait =>
    obtain ⟨-, -, hrun⟩ := (State.phaseInv_iff_of_wait hp).mp h
    exact hrun
  | sleep =>
    obtain ⟨-, -, hrun⟩ := (State.phaseInv_iff_of_sleep hp).mp h
    exact hrun
  | check =>
    obtain ⟨-, -, hrun⟩ := (State.phaseInv_iff_of_check hp).mp h
    exact hrun

end

/-! ### Every tick keeps the table of R38 -/

theorem State.phaseInv_resetWith (p : Params) : (State.resetWith p).PhaseInv :=
  (State.phaseInv_iff_of_idle rfl).mpr
    ⟨⟨rfl, rfl, rfl, rfl, rfl⟩, State.bufTailZero_of_zero rfl, fun _ => ⟨rfl, rfl, rfl, rfl, rfl, rfl, rfl, rfl⟩⟩

/-- `complete` clears every counter and the buffer, from any state (R96). -/
theorem State.phaseInv_complete (outcome : Status) (s : State) : (s.complete outcome).PhaseInv :=
  (State.phaseInv_iff_of_idle rfl).mpr ⟨⟨rfl, rfl, rfl, rfl, rfl⟩, State.bufTailZero_of_zero rfl, by simp⟩

theorem PhaseStep.keeps_phaseInv {s m : State} (h : PhaseStep s m) (hi : s.PhaseInv) : m.PhaseInv := by
  cases h with
  | rest | sendStall => exact hi
  | accept hst hs op hop =>
    obtain ⟨⟨hcnt, htxi, helapsed, hslp, hbuf⟩, htail, -⟩ := (State.phaseInv_iff_of_idle hst).mp hi
    exact (State.phaseInv_iff_of_send rfl).mpr
      ⟨⟨hcnt, by simp [htxi], helapsed, hslp, hbuf⟩, htail, rfl, rfl, rfl, rfl, rfl, rfl, rfl, rfl, rfl⟩
  | refuse hst hs hop =>
    obtain ⟨hrest, htail, -⟩ := (State.phaseInv_iff_of_idle hst).mp hi
    exact (State.phaseInv_iff_of_idle (s := s.refuseStart) hst).mpr ⟨hrest, htail, by simp⟩
  | sendByte hst hf hr b hb h8 =>
    obtain ⟨⟨hcnt, -, hrest⟩, htail, hrun⟩ := (State.phaseInv_iff_of_send hst).mp hi
    have htxi : (s.txi + 1).toNat ≤ 8 := by bv_omega
    exact (State.phaseInv_iff_of_send (s := (s.txPush b).nextCommandByte) hst).mpr ⟨⟨hcnt, htxi, hrest⟩, htail, hrun⟩
  | sendLastOfRead hst hf hr b hb h8 hread =>
    obtain ⟨⟨hcnt, -, -, hslp, -⟩, htail, hrun⟩ := (State.phaseInv_iff_of_send hst).mp hi
    exact (State.phaseInv_iff_of_wait rfl).mpr ⟨⟨hread, by simp [hcnt], rfl, hslp⟩, htail, hrun⟩
  | waitByte hst ht hf ha h8 =>
    obtain ⟨⟨hread, hcnt, hrest⟩, htail, hrun⟩ := (State.phaseInv_iff_of_wait hst).mp hi
    have hcnt' : (s.cnt + 1).toNat ≤ 8 := by rw [State.toNat_cnt_add_one hcnt]; omega
    exact (State.phaseInv_iff_of_wait rfl).mpr ⟨⟨hread, hcnt', hrest⟩, State.bufTailZero_rxPop _ htail hcnt, hrun⟩
  | waitLastByte hst ht hf ha h8 =>
    obtain ⟨⟨hread, hcnt, hrest⟩, htail, hrun⟩ := (State.phaseInv_iff_of_wait hst).mp hi
    have hcnt' : s.cnt + 1 = 9 := by rw [h8]; rfl
    exact (State.phaseInv_iff_of_check rfl).mpr ⟨⟨hread, hcnt', hrest⟩, State.bufTailZero_rxPop _ htail hcnt, hrun⟩
  | waitEmpty hst ht hf ha =>
    obtain ⟨⟨hread, hcnt, htxi, hslp⟩, htail, hrun⟩ := (State.phaseInv_iff_of_wait hst).mp hi
    unfold State.pause
    split
    · next hpoll => exact (State.phaseInv_iff_of_sleep rfl).mpr ⟨⟨hread, hcnt, htxi, hpoll, le_rfl⟩, htail, hrun⟩
    · exact (State.phaseInv_iff_of_wait rfl).mpr ⟨⟨hread, hcnt, htxi, hslp⟩, htail, hrun⟩
  | sleep hst hslp =>
    obtain ⟨⟨hread, hcnt, htxi, -, hle⟩, htail, hrun⟩ := (State.phaseInv_iff_of_sleep hst).mp hi
    by_cases h1 : s.slp = 1
    · exact (State.phaseInv_iff_of_wait (by simp [h1])).mpr ⟨⟨hread, hcnt, htxi, by simp [h1]⟩, htail, hrun⟩
    · exact (State.phaseInv_iff_of_sleep (by simp [h1])).mpr
        ⟨⟨hread, hcnt, htxi, by simp; omega, by simp; omega⟩, htail, hrun⟩
  | sendFail | sendLastOfSendOnly | waitTimeout | waitFail | checkOk | checkMarker | checkChecksum =>
    exact State.phaseInv_complete _ _

theorem satElapsed_lt (p : Params) (v : Nat) : satElapsed p v < 2 ^ (p.tw + 1) := by
  have := Nat.two_pow_pos (p.tw + 1)
  unfold satElapsed
  omega

theorem cfgValue_lt (p : Params) (i : Inputs) : cfgValue p i < 2 ^ p.tw :=
  Nat.mod_lt _ (Nat.two_pow_pos _)

theorem PhaseStep.keeps_widthInv {s m : State} (h : PhaseStep s m) (hw : s.WidthInv) : m.WidthInv := by
  obtain ⟨hwf, htimeout, htmo, helapsed⟩ := hw
  refine ⟨h.params_eq ▸ hwf, ?_, ?_, ?_⟩ <;> rw [h.params_eq]
  · rwa [h.timeout_eq]
  · rw [h.tmo_eq]
    split <;> assumption
  · obtain e | e | e := h.elapsed_cases <;> rw [e]
    · exact Nat.two_pow_pos _
    · exact helapsed
    · exact satElapsed_lt _ _

/-- A configuration write fits the register (R25). -/
theorem State.widthInv_configure {s : State} (i : Inputs) (hw : s.WidthInv) : (s.configure i).WidthInv := by
  obtain ⟨hwf, htimeout, hrest⟩ := hw
  refine ⟨hwf, ?_, hrest⟩
  rw [State.configure_timeout]
  split
  · exact cfgValue_lt _ _
  · exact htimeout

theorem State.inv_resetWith {p : Params} (hwf : p.wf) : (State.resetWith p).Inv := by
  have ⟨_, _, hdefault⟩ := hwf
  exact ⟨⟨hwf, hdefault, Nat.two_pow_pos _, Nat.two_pow_pos _⟩, State.phaseInv_resetWith p⟩

/-- Settles O46: reset restores the first row, and every rule of a phase leads from one row of the table to another. -/
theorem stepKeepsInv : Obligations.StepKeepsInv := by
  rintro s t ⟨hw, hphase⟩ h
  obtain ⟨-, rfl⟩ | ⟨-, m, hm, rfl⟩ := step_cases h
  · have ⟨hwf, _⟩ := hw
    exact State.inv_resetWith hwf
  · exact ⟨State.widthInv_configure s.now (hm.keeps_widthInv hw), hm.keeps_phaseInv hphase⟩

end Sys2Proof.Machine

/-!
SUPPORT. What the result registers say after each outcome (10_state.md R24, R27 to R31), kept by every tick.
-/
namespace Sys2Proof

/-! ### The ranges of `DECODE` -/

/-- The masked complement is incremented last, so it never is 0 (42_validator_decoder.md R78). -/
theorem Frame.calculated_bounds (f : Frame) : 1 ≤ f.calculated.toNat ∧ f.calculated.toNat ≤ 256 := by
  unfold Frame.calculated complementByte
  rw [BitVec.toNat_ofNat]
  omega

theorem Frame.toInt_temperature (f : Frame) : f.temperature.toInt = (f.b4.toNat : Int) - 40 := by
  have := f.b4.isLt
  unfold Frame.temperature
  rw [BitVec.toInt_eq_toNat_cond, BitVec.toNat_sub, BitVec.toNat_setWidth]
  simp only [BitVec.reduceToNat]
  split <;> omega

theorem Frame.toInt_temperature_bounds (f : Frame) : -40 ≤ f.temperature.toInt ∧ f.temperature.toInt ≤ 215 := by
  have := f.b4.isLt
  rw [f.toInt_temperature]
  omega

theorem Frame.reading_eq_ok {wrap : Bool} {f : Frame} {ppm : BitVec 16} {temperature : BitVec 9}
    (h : f.reading wrap = .ok ppm temperature) : temperature = f.temperature := by
  unfold Frame.reading at h
  split_ifs at h
  cases h
  rfl

theorem Frame.reading_eq_badChecksum {wrap : Bool} {f : Frame} {received : Byte} {calculated : BitVec 9}
    (h : f.reading wrap = .badChecksum received calculated) : calculated = f.calculated := by
  unfold Frame.reading at h
  split_ifs at h
  cases h
  rfl

end Sys2Proof

namespace Sys2Proof.Machine

/-! ### The results by outcome -/

theorem State.resultInv_of_running {s : State} (h : s.Running) : s.ResultInv := by
  obtain ⟨hdone, hstatus, hnone⟩ := h
  obtain ⟨hppm, hppmValid, htemp, htempValid, hnrecv, hckRecv, hckCalc⟩ := hnone
  simp [State.ResultInv, State.NoResults, *]

/-- An operation that has not ended has no results. -/
theorem State.PhaseInv.resultInv_of_busy {s : State} (h : s.PhaseInv) (hst : s.st ≠ .idle) : s.ResultInv :=
  State.resultInv_of_running (h.running hst)

/-- Writing `status` and `done` and nothing else is all that a failure without results does. -/
theorem State.resultInv_of_noResults {s : State} (hdone : s.done = true) (hnone : s.NoResults)
    (hstatus : s.status = .xportWrFail ∨ s.status = .illegalOp) : s.ResultInv := by
  obtain ⟨hppm, hppmValid, htemp, htempValid, hnrecv, hckRecv, hckCalc⟩ := hnone
  obtain e | e := hstatus <;> simp [State.ResultInv, State.NoResults, *]

/-- The reader gives up with what it has received (R69, R96). -/
theorem State.resultInv_complete_reader {s : State} {outcome : Status} (hrun : s.Running)
    (hread : s.opr.isRead = true) (hcnt : s.cnt.toNat ≤ 8)
    (ho : outcome = .readTimeout ∨ outcome = .xportRdFail) : (s.complete outcome).ResultInv := by
  obtain ⟨-, -, hppm, hppmValid, htemp, htempValid, -, hckRecv, hckCalc⟩ := hrun
  obtain rfl | rfl := ho <;> simp [State.ResultInv, *]

theorem State.resultInv_complete_sendOnly {s : State} (hrun : s.Running) (hread : s.opr.isRead = false)
    (hcnt : s.cnt = 0) : (s.complete .ok).ResultInv := by
  obtain ⟨-, -, hppm, hppmValid, htemp, htempValid, -, hckRecv, hckCalc⟩ := hrun
  have hopr : s.opr ≠ .readPpmTemp := by rintro e; simp [e, HostOp.isRead] at hread
  simp [State.ResultInv, *]

theorem State.resultInv_complete_badMarker {s : State} (hrun : s.Running) (hread : s.opr.isRead = true)
    (hcnt : s.cnt = 9) : (s.complete .badMarker).ResultInv := by
  obtain ⟨-, -, hppm, hppmValid, htemp, htempValid, -, hckRecv, hckCalc⟩ := hrun
  simp [State.ResultInv, *]

theorem State.resultInv_complete_badChecksum {s : State} (received : Byte) {calculated : BitVec 9} (hrun : s.Running)
    (hread : s.opr.isRead = true) (hcnt : s.cnt = 9)
    (hcalc : 1 ≤ calculated.toNat ∧ calculated.toNat ≤ 256) :
    ((s.recordChecksum received calculated).complete .badChecksum).ResultInv := by
  obtain ⟨-, -, hppm, hppmValid, htemp, htempValid, -, -, -⟩ := hrun
  simp [State.ResultInv, *]

/-- Only `READ_PPM_TEMP` records the temperature (R81). -/
theorem State.resultInv_complete_reading {s : State} (ppm : BitVec 16) {temperature : BitVec 9} (hrun : s.Running)
    (hread : s.opr.isRead = true) (hcnt : s.cnt = 9)
    (htemperature : -40 ≤ temperature.toInt ∧ temperature.toInt ≤ 215) :
    ((s.recordReading ppm temperature).complete .ok).ResultInv := by
  obtain ⟨-, -, -, -, htemp, htempValid, -, hckRecv, hckCalc⟩ := hrun
  by_cases hopr : s.opr = .readPpmTemp
  · simp [State.ResultInv, HostOp.isRead, *]
  · simp [State.ResultInv, *]

theorem PhaseStep.keeps_resultInv {s m : State} (h : PhaseStep s m) (hi : s.PhaseInv) (hr : s.ResultInv) :
    m.ResultInv := by
  have hm := h.keeps_phaseInv hi
  cases h with
  | rest | sendStall => exact hr
  | refuse => exact State.resultInv_of_noResults rfl ⟨rfl, rfl, rfl, rfl, rfl, rfl, rfl⟩ (.inr rfl)
  | accept hst | sendByte hst | sendLastOfRead hst | waitByte hst | waitLastByte hst =>
    exact hm.resultInv_of_busy (by simp [hst])
  | waitEmpty | sleep => exact hm.resultInv_of_busy (by simp only [State.pause_st, State.sleepOn_st]; split <;> simp)
  | sendFail hst hf =>
    obtain ⟨⟨hcnt, -⟩, -, -, -, hppm, hppmValid, htemp, htempValid, -, hck⟩ := (State.phaseInv_iff_of_send hst).mp hi
    exact State.resultInv_of_noResults rfl ⟨hppm, hppmValid, htemp, htempValid, hcnt, hck⟩ (.inl rfl)
  | sendLastOfSendOnly hst hf hr b hb h8 hread =>
    obtain ⟨⟨hcnt, -⟩, -, hrun⟩ := (State.phaseInv_iff_of_send hst).mp hi
    exact State.resultInv_complete_sendOnly hrun hread hcnt
  | waitTimeout hst ht =>
    obtain ⟨⟨hread, hcnt, -⟩, -, hrun⟩ := (State.phaseInv_iff_of_wait hst).mp hi
    exact State.resultInv_complete_reader hrun hread hcnt (.inl rfl)
  | waitFail hst ht hf =>
    obtain ⟨⟨hread, hcnt, -⟩, -, hrun⟩ := (State.phaseInv_iff_of_wait hst).mp hi
    exact State.resultInv_complete_reader hrun hread hcnt (.inr rfl)
  | checkOk hst ppm temperature hrd =>
    obtain ⟨⟨hread, hcnt, -⟩, -, hrun⟩ := (State.phaseInv_iff_of_check hst).mp hi
    have hbounds := s.buf.toInt_temperature_bounds
    rw [← Frame.reading_eq_ok hrd] at hbounds
    exact State.resultInv_complete_reading ppm hrun hread hcnt hbounds
  | checkMarker hst hrd =>
    obtain ⟨⟨hread, hcnt, -⟩, -, hrun⟩ := (State.phaseInv_iff_of_check hst).mp hi
    exact State.resultInv_complete_badMarker hrun hread hcnt
  | checkChecksum hst received calculated hrd =>
    obtain ⟨⟨hread, hcnt, -⟩, -, hrun⟩ := (State.phaseInv_iff_of_check hst).mp hi
    have hbounds := s.buf.calculated_bounds
    rw [← Frame.reading_eq_badChecksum hrd] at hbounds
    exact State.resultInv_complete_badChecksum received hrun hread hcnt hbounds

theorem State.resultInv_resetWith (p : Params) : (State.resetWith p).ResultInv :=
  State.resultInv_of_running ⟨rfl, rfl, rfl, rfl, rfl, rfl, rfl, rfl, rfl⟩

/-- Settles O47: reset clears the results, and every rule of a phase writes them as its outcome says. -/
theorem stepKeepsResultInv : Obligations.StepKeepsResultInv := by
  rintro s t ⟨-, hphase⟩ hresult h
  obtain ⟨-, rfl⟩ | ⟨-, m, hm, rfl⟩ := step_cases h
  · exact State.resultInv_resetWith s.params
  · exact hm.keeps_resultInv hphase hresult

theorem State.streamInv_resetWith (p : Params) : (State.resetWith p).StreamInv :=
  ⟨nofun, by simp [State.resetWith]⟩

theorem State.timerInv_resetWith (p : Params) : (State.resetWith p).TimerInv :=
  ⟨by simp [State.resetWith], nofun⟩

/-- Settles O45: the reset state is idle with nothing in it. -/
theorem resetInv : Obligations.ResetInv :=
  ⟨fun p hwf => ⟨State.inv_resetWith hwf, State.resultInv_resetWith p, State.streamInv_resetWith p,
    State.timerInv_resetWith p⟩, State.inv_resetWith (by decide)⟩

end Sys2Proof.Machine

/-!
SUPPORT. Which input ports a tick looks at in each phase (10_state.md R14, R15; 60_exceptions.md R98).
-/
namespace Sys2Proof.Machine

/-- `s` with the inputs `i` on the coming tick and `rest` on the ticks after it. -/
def State.withInputs (s : State) (i : Inputs) (rest : List Inputs) : State := { s with script := i :: rest }

/-- `i` and `j` agree on the ports the rule of a phase looks at: `start` and `op` in `IDLE` (R86), the transmit handshake in
`SEND` (R62), the receive handshake in `WAIT`, with `rx_data` only where it is available (R69), and no port in `SLEEP` and
`CHECK` (R70, R81). -/
def Phase.SeesSame (p : Phase) (i j : Inputs) : Prop :=
  match p with
  | .idle => i.start = j.start ∧ i.op = j.op
  | .send => i.txFail = j.txFail ∧ i.txReady = j.txReady
  | .wait => i.rxFail = j.rxFail ∧ i.rxAvail = j.rxAvail ∧ (i.rxAvail = true → i.rxData = j.rxData)
  | .sleep => True
  | .check => True

theorem phaseTick_accept {s : State} {op : HostOp} (hst : s.st = .idle) (hs : s.now.start = true)
    (hop : s.now.op = op.code.setWidth 3) : phaseTick s = .next (s.acceptStart op) := by
  simp only [phaseTick, State.work, hst, hs, if_true, hop, runWord, decode_op_code, exec_hostOp, issueStart]

theorem phaseTick_refuse {s : State} (hst : s.st = .idle) (hs : s.now.start = true) (hop : 4 ≤ s.now.op.toNat) :
    phaseTick s = .next s.refuseStart := by
  obtain ⟨o, ho, -⟩ | ⟨-, e⟩ := phaseTick_start hst hs
  · have := toNat_opPort_le o
    rw [← ho] at this
    omega
  · exact e

section
variable (s : State) {i j : Inputs} {rest : List Inputs}

theorem lastByteSent_withInputs : lastByteSent (s.withInputs i rest) = (lastByteSent s).withInputs i rest := by
  by_cases h : s.opr.isRead = true <;> simp [lastByteSent, State.enterReader, State.complete, State.withInputs, h]

theorem State.pause_withInputs : (s.withInputs i rest).pause = s.pause.withInputs i rest := by
  by_cases h : s.params.pollTicks > 0 <;> simp [State.pause, State.withInputs, h]

theorem State.recordReading_withInputs (ppm : BitVec 16) (temperature : BitVec 9) :
    (s.withInputs i rest).recordReading ppm temperature = (s.recordReading ppm temperature).withInputs i rest := by
  by_cases h : s.opr = .readPpmTemp <;> simp [State.recordReading, State.withInputs, h]

theorem finishReading_withInputs (r : Reading) :
    finishReading r (s.withInputs i rest) = (finishReading r s).withInputs i rest := by
  cases r with
  | ok ppm temperature => exact congrArg (State.complete .ok) (s.recordReading_withInputs ppm temperature)
  | badMarker | badChecksum => rfl

/-- `r` and `r'` are the same answer, of a block that has the inputs `i` on the coming tick and of one that has `j`. -/
inductive SameAnswer (i j : Inputs) (rest : List Inputs) : Result → Result → Prop
  | next (m : State) : SameAnswer i j rest (.next (m.withInputs i rest)) (.next (m.withInputs j rest))
  | fault (f : Fault) : SameAnswer i j rest (.fault f) (.fault f)
  | refused (e : Refusal) : SameAnswer i j rest (.refused e) (.refused e)

theorem SameAnswer.ite {p q : Prop} [Decidable p] [Decidable q] {r₁ r₂ r₁' r₂' : Result} (hpq : p ↔ q)
    (h₁ : p → SameAnswer i j rest r₁ r₁') (h₂ : SameAnswer i j rest r₂ r₂') :
    SameAnswer i j rest (if p then r₁ else r₂) (if q then r₁' else r₂') := by
  by_cases hq : q
  · rw [if_pos (hpq.mpr hq), if_pos hq]
    exact h₁ (hpq.mpr hq)
  · rwa [if_neg (hpq.not.mpr hq), if_neg hq]

/-- At the end of the tick its inputs are gone, and the configuration write looks at two ports only. -/
theorem SameAnswer.endOfTick_eq {r r' : Result} (h : SameAnswer i j rest r r') (hwe : i.cfgWe = j.cfgWe)
    (hcfg : i.cfgTimeout = j.cfgTimeout) : endOfTick i r = endOfTick j r' := by
  cases h with
  | next m =>
    simp only [endOfTick, State.withInputs, State.configure, State.nextTick, cfgValue, hwe, hcfg, List.tail_cons]
  | fault | refused => rfl

theorem idleTick_sameAnswer (hst : s.st = .idle) (hstart : i.start = j.start) (hop : i.op = j.op) :
    SameAnswer i j rest (phaseTick (s.withInputs i rest)) (phaseTick (s.withInputs j rest)) := by
  have hi : (s.withInputs i rest).st = .idle := hst
  have hj : (s.withInputs j rest).st = .idle := hst
  cases hs : j.start with
  | false =>
    rw [phaseTick_rest hi (hstart.trans hs), phaseTick_rest hj hs]
    exact .next s
  | true =>
    obtain ⟨o, ho, -⟩ | ⟨ho, -⟩ := decode_op j.op
    · rw [phaseTick_accept hi (hstart.trans hs) (hop.trans ho), phaseTick_accept hj hs ho]
      exact .next (s.acceptStart o)
    · rw [phaseTick_refuse hi (hstart.trans hs) (hop ▸ ho), phaseTick_refuse hj hs ho]
      exact .next s.refuseStart

theorem sendTick_sameAnswer (c : Command) (hfail : i.txFail = j.txFail) (hready : i.txReady = j.txReady) :
    SameAnswer i j rest (sendTick c (s.withInputs i rest)) (sendTick c (s.withInputs j rest)) := by
  unfold sendTick
  refine .ite Iff.rfl (fun _ => ?_) (.refused _)
  refine .ite (hfail ▸ Iff.rfl) (fun _ => .next (s.complete _)) (.ite (hready ▸ Iff.rfl) (fun _ => ?_) (.next s))
  have hi : (s.withInputs i rest).txi = s.txi := rfl
  have hj : (s.withInputs j rest).txi = s.txi := rfl
  rw [hi, hj]
  cases cmdByte c s.txi.toNat with
  | none => exact .fault _
  | some b =>
    have hlast := SameAnswer.next (i := i) (j := j) (rest := rest) (lastByteSent (s.txPush b))
    rw [← lastByteSent_withInputs, ← lastByteSent_withInputs] at hlast
    exact .ite Iff.rfl (fun _ => hlast) (.next (s.txPush b).nextCommandByte)

theorem waitTick_sameAnswer (hfail : i.rxFail = j.rxFail) (havail : i.rxAvail = j.rxAvail)
    (hdata : i.rxAvail = true → i.rxData = j.rxData) :
    SameAnswer i j rest (waitTick (s.withInputs i rest)) (waitTick (s.withInputs j rest)) := by
  unfold waitTick
  refine .ite Iff.rfl (fun _ => .next (s.complete _)) (.ite (hfail ▸ Iff.rfl) (fun _ => .next (s.complete _)) ?_)
  refine .ite (havail ▸ Iff.rfl) (fun ha => .ite Iff.rfl (fun _ => ?_) (.fault _)) ?_
  · have hd : (s.withInputs i rest).now.rxData = (s.withInputs j rest).now.rxData := hdata ha
    rw [hd]
    exact .next ((s.rxPop j.rxData).countTick.goto (if s.cnt = 8 then .check else .wait))
  · have hpause := SameAnswer.next (i := i) (j := j) (rest := rest) s.countTick.pause
    rwa [← State.pause_withInputs, ← State.pause_withInputs] at hpause

theorem sleepTick_sameAnswer :
    SameAnswer i j rest (sleepTick (s.withInputs i rest)) (sleepTick (s.withInputs j rest)) :=
  .ite Iff.rfl (fun _ => .fault _) (.next s.countTick.sleepOn)

theorem checkTick_sameAnswer (hst : s.st = .check) :
    SameAnswer i j rest (phaseTick (s.withInputs i rest)) (phaseTick (s.withInputs j rest)) := by
  have hi : (s.withInputs i rest).st = .check := hst
  have hj : (s.withInputs j rest).st = .check := hst
  rw [phaseTick_check hi, phaseTick_check hj, finishReading_withInputs, finishReading_withInputs]
  exact .next (finishReading (s.buf.reading s.params.cksumWrap) s)

/-- The rule of a phase looks at the ports of the phase and at no other. -/
theorem phaseTick_sameAnswer (h : s.st.SeesSame i j) :
    SameAnswer i j rest (phaseTick (s.withInputs i rest)) (phaseTick (s.withInputs j rest)) := by
  cases hst : s.st with
  | idle =>
    rw [hst] at h
    obtain ⟨hstart, hop⟩ := h
    exact idleTick_sameAnswer s hst hstart hop
  | send =>
    rw [hst] at h
    obtain ⟨hfail, hready⟩ := h
    rw [phaseTick_send (s := s.withInputs i rest) hst, phaseTick_send (s := s.withInputs j rest) hst]
    exact sendTick_sameAnswer s s.opr.command hfail hready
  | wait =>
    rw [hst] at h
    obtain ⟨hfail, havail, hdata⟩ := h
    rw [phaseTick_wait (s := s.withInputs i rest) hst, phaseTick_wait (s := s.withInputs j rest) hst]
    exact waitTick_sameAnswer s hfail havail hdata
  | sleep =>
    rw [phaseTick_sleep (s := s.withInputs i rest) hst, phaseTick_sleep (s := s.withInputs j rest) hst]
    exact sleepTick_sameAnswer s
  | check => exact checkTick_sameAnswer s hst

/-- What a tick answers depends on `rst`, the configuration ports, and the ports its phase looks at. -/
theorem step_withInputs_congr (hrst : i.rst = j.rst) (hwe : i.cfgWe = j.cfgWe) (hcfg : i.cfgTimeout = j.cfgTimeout)
    (hsees : s.st.SeesSame i j) : step (s.withInputs i rest) = step (s.withInputs j rest) := by
  cases hr : j.rst with
  | true =>
    rw [step_rst (s := s.withInputs i rest) (hrst.trans hr), step_rst (s := s.withInputs j rest) hr]
    rfl
  | false =>
    rw [step_phase (s := s.withInputs i rest) (hrst.trans hr), step_phase (s := s.withInputs j rest) hr]
    exact (phaseTick_sameAnswer s hsees).endOfTick_eq hwe hcfg

end

/-- Settles O16: only a `WAIT` tick looks at `rx_data`, and only after `rx_avail`. -/
theorem unavailableDataUnused : Obligations.UnavailableDataUnused := by
  intro s i rest d ha
  refine step_withInputs_congr s rfl rfl rfl ?_
  cases s.st with
  | idle | send => exact ⟨rfl, rfl⟩
  | wait => exact ⟨rfl, rfl, fun ha' => absurd ha' (by simp [ha])⟩
  | sleep | check => trivial

end Sys2Proof.Machine

/-!
SUPPORT. The output ports, the read-out of the registers, and the transport beside the block (10_state.md R14, R15, R25
to R32).
-/
namespace Sys2Proof.Machine

/-! ### The ports and the streams -/

theorem State.pushes_iff (s : State) :
    s.pushes = true ↔ s.now.rst = false ∧ s.st = .send ∧ s.now.txFail = false ∧ s.now.txReady = true := by
  simp [State.pushes, and_assoc]

theorem State.pops_iff (s : State) :
    s.pops = true ↔
      s.now.rst = false ∧ s.st = .wait ∧ s.elapsed ≤ s.tmo ∧ s.now.rxFail = false ∧ s.now.rxAvail = true := by
  simp [State.pops, State.expired, and_assoc]

/-- The bytes handed over on a tick: the one on `tx_data`, or none. -/
def State.handedOver (s : State) : List Byte := if s.outputs.txPush then [s.outputs.txData] else []

/-- The bytes consumed on a tick: the one on `rx_data`, or none. -/
def State.consumed (s : State) : List Byte := if s.outputs.rxPop then [s.now.rxData] else []

theorem State.handedOver_of_push {s : State} {b : Byte} (h : s.pushes = true)
    (hb : cmdByte s.opr.command s.txi.toNat = some b) : s.handedOver = [b] := by
  simp [State.handedOver, State.outputs, h, hb]

theorem State.handedOver_of_not_push {s : State} (h : ¬ s.pushes = true) : s.handedOver = [] := by
  simp [State.handedOver, State.outputs, h]

theorem State.consumed_of_pop {s : State} (h : s.pops = true) : s.consumed = [s.now.rxData] := by
  simp [State.consumed, State.outputs, h]

theorem State.consumed_of_not_pop {s : State} (h : ¬ s.pops = true) : s.consumed = [] := by
  simp [State.consumed, State.outputs, h]

theorem PhaseStep.txStream_eq {s m : State} (h : PhaseStep s m) (hr : s.now.rst = false) :
    m.txStream = s.txStream ++ s.handedOver := by
  cases h with
  | sendByte hst hf hready b hb | sendLastOfRead hst hf hready b hb | sendLastOfSendOnly hst hf hready b hb =>
    rw [State.handedOver_of_push (s.pushes_iff.mpr ⟨hr, hst, hf, hready⟩) hb]
    simp
  | _ =>
    rw [State.handedOver_of_not_push (by simp [State.pushes_iff, *])]
    simp

theorem PhaseStep.rxTaken_eq {s m : State} (h : PhaseStep s m) (hr : s.now.rst = false) :
    m.rxTaken = s.rxTaken ++ s.consumed := by
  cases h with
  | waitByte hst ht hf ha | waitLastByte hst ht hf ha =>
    rw [State.consumed_of_pop (s.pops_iff.mpr ⟨hr, hst, ht, hf, ha⟩)]
    simp
  | _ =>
    rw [State.consumed_of_not_pop (by simp [State.pops_iff, *])]
    simp

/-- A tick appends to the streams what its ports show. -/
theorem step_streams {s t : State} (h : step s = .next t) :
    t.txStream = s.txStream ++ s.handedOver ∧ t.rxTaken = s.rxTaken ++ s.consumed := by
  obtain ⟨hr, rfl⟩ | ⟨hr, m, hm, rfl⟩ := step_cases h
  · rw [State.handedOver_of_not_push (by simp [State.pushes_iff, hr]),
      State.consumed_of_not_pop (by simp [State.pops_iff, hr])]
    simp
  · exact ⟨hm.txStream_eq hr, hm.rxTaken_eq hr⟩

/-- Settles O52: the streams grow as `step_streams` says, and the ports are guarded by the phase and the handshakes. -/
theorem portsAndStreams : Obligations.PortsAndStreams := by
  refine ⟨fun s t h => step_streams h, fun s => ⟨fun hpush => ?_, fun hpop => ?_, fun hpush => ?_⟩⟩
  · obtain ⟨-, hst, -, hready⟩ := s.pushes_iff.mp hpush
    have hpop : ¬ s.pops = true := by simp [State.pops_iff, hst]
    exact ⟨hready, Bool.eq_false_iff.mpr hpop⟩
  · obtain ⟨-, -, -, -, havail⟩ := s.pops_iff.mp hpop
    exact havail
  · exact if_neg (Bool.eq_false_iff.mp hpush)

/-! ### The transport -/

/-- A tick of the bench that answers is a tick of the block on what the transport presents. -/
theorem Bench.tick_next {b c : Bench} {bytes : List Byte} {i : Inputs} (h : b.tick bytes i = .next c) :
    step (b.presented bytes i) = .next c.block ∧
      c.transport.queue =
        if (b.presented bytes i).pops then (b.transport.queue ++ bytes).tail else b.transport.queue ++ bytes := by
  unfold Bench.tick at h
  split at h
  · next s hs => cases h; exact ⟨hs, rfl⟩
  · cases h
  · cases h

/-- What the receive ports show of a queue (R15). -/
theorem Bench.now_presented (b : Bench) (bytes : List Byte) (i : Inputs) :
    (b.presented bytes i).now.rxAvail = !(b.transport.queue ++ bytes).isEmpty ∧
      (b.presented bytes i).now.rxData = (b.transport.queue ++ bytes).headD i.rxData := ⟨rfl, rfl⟩

/-- Settles O58: the block pops only while the queue has a head, and then it is the head that it takes. -/
theorem queueConserved : Obligations.QueueConserved := by
  intro b c bytes i h
  obtain ⟨hstep, hqueue⟩ := Bench.tick_next h
  obtain ⟨-, htaken⟩ := step_streams hstep
  obtain ⟨havail, hdata⟩ := b.now_presented bytes i
  have hbefore : (b.presented bytes i).rxTaken = b.block.rxTaken := rfl
  by_cases hpop : (b.presented bytes i).pops = true
  · obtain ⟨-, -, -, -, ha⟩ := (State.pops_iff _).mp hpop
    rw [State.consumed_of_pop hpop, hdata, hbefore] at htaken
    rw [if_pos hpop] at hqueue
    rw [havail] at ha
    cases hq : b.transport.queue ++ bytes with
    | nil => simp [hq] at ha
    | cons x rest =>
      rw [hq, List.headD_cons] at htaken
      rw [hq, List.tail_cons] at hqueue
      rw [htaken, hqueue]
      exact ⟨List.append_assoc _ _ _, .inr ⟨x, rfl, rfl⟩⟩
  · rw [State.consumed_of_not_pop hpop, hbefore, List.append_nil] at htaken
    rw [if_neg hpop] at hqueue
    exact ⟨by rw [htaken, hqueue], .inl hqueue⟩

/-! ### The read-out -/

theorem State.getLsbD_flags (s : State) :
    s.flags.getLsbD 0 = s.busy ∧ s.flags.getLsbD 1 = s.done ∧ s.flags.getLsbD 2 = s.ppmValid ∧
      s.flags.getLsbD 3 = s.tempValid := by
  simp only [State.flags, BitVec.getLsbD_append, BitVec.getLsbD_ofBool]
  simp

/-- Settles O54: the four flags lie side by side in `FLAGS`. -/
theorem flagsReadOut : Obligations.FlagsReadOut := by
  intro s
  obtain ⟨hbusy, hdone, hppm, htemp⟩ := s.getLsbD_flags
  exact ⟨hbusy, hdone, hppm, htemp, rfl, hbusy.symm, hdone.symm⟩

/-- Four flags side by side count 1, 2, 4 and 8. -/
theorem toNat_ofBool_append (a b c d : Bool) :
    (BitVec.ofBool d ++ BitVec.ofBool c ++ BitVec.ofBool b ++ BitVec.ofBool a).toNat =
      (if a then 1 else 0) + (if b then 2 else 0) + (if c then 4 else 0) + (if d then 8 else 0) := by
  revert a b c d
  decide

theorem State.toNat_flags (s : State) :
    s.flags.toNat = (if s.st ≠ .idle then 1 else 0) + (if s.done then 2 else 0) +
      (if s.ppmValid then 4 else 0) + (if s.tempValid then 8 else 0) := by
  have h := toNat_ofBool_append s.busy s.done s.ppmValid s.tempValid
  simpa only [State.flags, State.busy, decide_eq_true_eq] using h

/-- The number a two's-complement register shows (10_state.md R28). -/
theorem toNat_eq_of_toInt (v : BitVec 9) :
    v.toNat = if 0 ≤ v.toInt then v.toInt.toNat else (512 + v.toInt).toNat := by
  have := v.isLt
  rw [BitVec.toInt_eq_toNat_cond]
  split_ifs <;> omega

theorem State.readReg_status (s : State) : s.readReg 1 = some s.status.code.toNat := rfl

theorem State.readReg_eq_none (s : State) {n : Nat} (h : 8 ≤ n) : s.readReg n = none ∧ regWidth s.params n = none := by
  obtain ⟨k, rfl⟩ := Nat.exists_eq_add_of_le' h
  exact ⟨rfl, rfl⟩

/-- A register's value fits the register (R25 to R32). -/
theorem State.readReg_lt {s : State} (htimeout : s.timeout < 2 ^ s.params.tw) {n : Nat} (hn : n ≤ 7) :
    ∃ v w, s.readReg n = some v ∧ regWidth s.params n = some w ∧ v < 2 ^ w := by
  match n with
  | 0 => exact ⟨_, _, rfl, rfl, htimeout⟩
  | 1 => exact ⟨_, _, rfl, rfl, s.status.code.isLt⟩
  | 2 => exact ⟨_, _, rfl, rfl, s.ppm.isLt⟩
  | 3 => exact ⟨_, _, rfl, rfl, s.temp.isLt⟩
  | 4 => exact ⟨_, _, rfl, rfl, s.nrecv.isLt⟩
  | 5 => exact ⟨_, _, rfl, rfl, s.ckRecv.isLt⟩
  | 6 => exact ⟨_, _, rfl, rfl, s.ckCalc.isLt⟩
  | 7 => exact ⟨_, _, rfl, rfl, s.flags.isLt⟩

/-- Settles O55: the read-out gives each register's number, and only `TIMEOUT` needs the invariant to fit. -/
theorem readOutWidths : Obligations.ReadOutWidths := by
  intro s
  refine ⟨⟨rfl, rfl⟩, ⟨?_, rfl⟩, ⟨rfl, rfl⟩, ⟨congrArg some (toNat_eq_of_toInt s.temp), rfl⟩, ⟨rfl, rfl⟩,
    ⟨rfl, rfl⟩, ⟨rfl, rfl⟩, ⟨congrArg some s.toNat_flags, rfl⟩, fun n => s.readReg_eq_none, ?_⟩
  · rw [State.readReg_status]
    cases s.status <;> rfl
  · rintro ⟨⟨-, htimeout, -⟩, -⟩ n hn
    exact State.readReg_lt htimeout hn

end Sys2Proof.Machine

/-!
SUPPORT. The encoder against the decoder, by format, and the numbers of the codes (spec 30_encoding.md R52 to R58).
-/
namespace Sys2Proof

/-! ### What the encoder writes, and its format -/

@[simp] theorem HostOp.format_instr (op : HostOp) : op.instr.format = .op3 := by cases op <;> rfl

@[simp] theorem Command.format_instr (c : Command) : c.instr.format = .cmd := by cases c <;> rfl

/-- A host operation is its code in one byte (R56). -/
@[simp] theorem encode_hostOp_instr (op : HostOp) : encode op.instr = [op.code.setWidth 8] := by cases op <;> rfl

/-- A `SEND` form is its row of `CMDROM` (R54): the encoder's bytes in hexadecimal are the constants in decimal. -/
@[simp] theorem encode_command_instr (c : Command) : encode c.instr = (cmdRom c).toBytes := by cases c <;> rfl

/-! ### The two directions of the round trip -/

/-- Every instruction survives encoding and decoding, a `DECODE` with all nine bytes of its operand. -/
theorem decode_encode (i : Instr) : decode i.format (encode i) = .ok i := by
  cases i with
  | readPpm => exact Machine.decode_op_code .readPpm
  | readPpmTemp => exact Machine.decode_op_code .readPpmTemp
  | resetSensor => exact Machine.decode_op_code .resetSensor
  | disableAbc => exact Machine.decode_op_code .disableAbc
  | sendRead => exact Machine.decode_cmdRom .read
  | sendReset => exact Machine.decode_cmdRom .reset
  | sendAbcoff => exact Machine.decode_cmdRom .abcoff
  | decode f => exact decode_rsp_toBytes f

/-- The decoder reads nothing but what the encoder writes: a decoded instruction is of the format it was read in, and its
bytes are the ones read. -/
theorem encode_of_decode {fmt : Format} {bytes : List Byte} {i : Instr} (h : decode fmt bytes = .ok i) :
    i.format = fmt ∧ encode i = bytes := by
  cases fmt with
  | op3 =>
    obtain ⟨op, rfl, rfl⟩ := decode_op3_eq_ok h
    exact ⟨op.format_instr, encode_hostOp_instr op⟩
  | cmd =>
    obtain ⟨c, rfl, rfl⟩ := decode_cmd_eq_ok h
    exact ⟨c.format_instr, encode_command_instr c⟩
  | rsp =>
    obtain ⟨f, rfl, rfl⟩ := decode_rsp_eq_ok h
    exact ⟨rfl, rfl⟩

/-- Settles O2: `encode_of_decode` one way, `decode_encode` the other. -/
theorem decodeIffEncode : Obligations.DecodeIffEncode := by
  intro fmt bytes i
  constructor
  · exact encode_of_decode
  · rintro ⟨rfl, rfl⟩
    exact decode_encode i

/-! ### The words and the numbers of the spec -/

/-- Settles O1: the words are the four codes, the three rows of `CMDROM` and the bytes of one frame. -/
theorem specWordsDecode : Obligations.SpecWordsDecode :=
  ⟨Machine.decode_op_code .readPpm, Machine.decode_op_code .readPpmTemp, Machine.decode_op_code .resetSensor,
    Machine.decode_op_code .disableAbc, Machine.decode_cmdRom .read, Machine.decode_cmdRom .reset,
    Machine.decode_cmdRom .abcoff, decode_rsp_toBytes ⟨255, 1, 3, 32, 63, 0, 0, 0, 157⟩⟩

/-- Settles O4: a value of the port is the code of a host operation, which is below 4 and accepted, or is reserved. -/
theorem reservedOpsRejected : Obligations.ReservedOpsRejected := by
  intro op
  obtain ⟨o, rfl, hd⟩ | ⟨hop, hd⟩ := Machine.decode_op op
  · have hcode : ¬ 4 ≤ (o.code.setWidth 3).toNat := by cases o <;> decide
    rw [hd]
    exact iff_of_false nofun hcode
  · exact iff_of_true hd hop

/-- Settles O59, by the tables that define the three codes. -/
theorem codeNumbers : Obligations.CodeNumbers :=
  ⟨⟨rfl, rfl, rfl, rfl, rfl, rfl, rfl, rfl⟩, ⟨rfl, rfl, rfl, rfl, rfl⟩, ⟨rfl, rfl, rfl, rfl⟩⟩

end Sys2Proof

/-!
SUPPORT. Where the two byte streams stand in each phase (40_command_encoder.md R66, 41_frame_reader.md R71,
20_memory.md R47), kept by every tick.
-/
namespace Sys2Proof

/-- A stream that ends with the first `n` entries of a list, given entry `n`, ends with the first `n + 1`. -/
theorem take_succ_suffix_append {α : Type} {l stream : List α} {n : Nat} {b : α} (h : l.take n <:+ stream)
    (hb : l[n]? = some b) : l.take (n + 1) <:+ stream ++ [b] := by
  obtain ⟨before, rfl⟩ := h
  exact ⟨before, by rw [List.take_add_one, hb, Option.toList_some, List.append_assoc]⟩

/-- Storing entry `i` leaves the bytes before it. -/
theorem Frame.take_toBytes_set (f : Frame) (i : Nat) (b : Byte) : (f.set i b).toBytes.take i = f.toBytes.take i := by
  rw [Frame.toBytes_set, List.take_set_of_le le_rfl]

theorem Frame.getElem?_toBytes_set_self (f : Frame) {i : Nat} (b : Byte) (h : i ≤ 8) :
    (f.set i b).toBytes[i]? = some b := by
  rw [Frame.toBytes_set, List.getElem?_set_self (by rw [Frame.length_toBytes]; omega)]

theorem HostOp.command_of_isRead {op : HostOp} (h : op.isRead = true) : op.command = .read := by
  cases op with
  | readPpm | readPpmTemp => rfl
  | resetSensor | disableAbc => cases h

end Sys2Proof

namespace Sys2Proof.Machine

section
variable {s : State}

/-- The streams of a block whose Read command has been sent: the last `CNT` bytes popped are in the buffer
(R47, R71). -/
abbrev State.ReaderStreams (s : State) : Prop :=
  (cmdRom .read).toBytes <:+ s.txStream ∧ s.buf.toBytes.take s.cnt.toNat <:+ s.rxTaken

/-! ### The streams by phase -/

theorem State.streamInv_of_idle (hst : s.st = .idle) : s.StreamInv := by
  simp [State.StreamInv, hst]

theorem State.streamInv_iff_of_send (hst : s.st = .send) :
    s.StreamInv ↔ (cmdRom s.opr.command).toBytes.take s.txi.toNat <:+ s.txStream := by
  simp [State.StreamInv, hst]

theorem State.streamInv_iff_of_reader (hst : s.st = .wait ∨ s.st = .sleep ∨ s.st = .check) :
    s.StreamInv ↔ s.ReaderStreams := by
  obtain e | e | e := hst <;> simp [State.StreamInv, e]

/-! ### The two ways a stream grows -/

/-- Pushing byte `TXI` of the command makes the part of it that has been sent one byte longer (R66). -/
theorem State.StreamInv.take_suffix_txPush (h : s.StreamInv) (hst : s.st = .send) {b : Byte}
    (hb : cmdByte s.opr.command s.txi.toNat = some b) :
    (cmdRom s.opr.command).toBytes.take (s.txi.toNat + 1) <:+ (s.txPush b).txStream :=
  take_succ_suffix_append ((State.streamInv_iff_of_send hst).mp h) (cmdByte_eq .. ▸ hb)

/-- Popping a byte into entry `CNT` makes the buffered end of the stream one byte longer (R71). -/
theorem State.ReaderStreams.rxPop (h : s.ReaderStreams) (b : Byte) (hcnt : s.cnt.toNat ≤ 8) :
    (s.rxPop b).ReaderStreams := by
  obtain ⟨hsent, htaken⟩ := h
  refine ⟨hsent, ?_⟩
  rw [State.rxPop_cnt, State.toNat_cnt_add_one hcnt]
  exact take_succ_suffix_append ((Frame.take_toBytes_set ..).symm ▸ htaken)
    (s.buf.getElem?_toBytes_set_self b hcnt)

end

/-! ### Every tick keeps the streams -/

theorem PhaseStep.keeps_streamInv {s m : State} (h : PhaseStep s m) (hi : s.PhaseInv) (hs : s.StreamInv) :
    m.StreamInv := by
  cases h with
  | rest | sendStall => exact hs
  | accept hst =>
    obtain ⟨⟨-, htxi, -⟩, -⟩ := (State.phaseInv_iff_of_idle hst).mp hi
    exact (State.streamInv_iff_of_send rfl).mpr (by simp [htxi])
  | sendByte hst hf hr b hb h8 =>
    have htxi : (s.txi + 1).toNat = s.txi.toNat + 1 := by bv_omega
    refine (State.streamInv_iff_of_send (s := (s.txPush b).nextCommandByte) hst).mpr ?_
    rw [State.nextCommandByte_txi, State.txPush_txi, htxi]
    exact hs.take_suffix_txPush hst hb
  | sendLastOfRead hst hf hr b hb h8 hread =>
    obtain ⟨⟨hcnt, -⟩, -⟩ := (State.phaseInv_iff_of_send hst).mp hi
    have hsent := hs.take_suffix_txPush hst hb
    rw [h8, HostOp.command_of_isRead hread] at hsent
    exact (State.streamInv_iff_of_reader (.inl rfl)).mpr ⟨hsent, by simp [hcnt]⟩
  | waitByte hst ht hf ha h8 =>
    have hreader := (State.streamInv_iff_of_reader (.inl hst)).mp hs
    exact (State.streamInv_iff_of_reader (.inl rfl)).mpr (hreader.rxPop _ (by omega))
  | waitLastByte hst ht hf ha h8 =>
    have hreader := (State.streamInv_iff_of_reader (.inl hst)).mp hs
    exact (State.streamInv_iff_of_reader (.inr (.inr rfl))).mpr (hreader.rxPop _ (by simp [h8]))
  | waitEmpty hst =>
    have hreader := (State.streamInv_iff_of_reader (.inl hst)).mp hs
    refine (State.streamInv_iff_of_reader ?_).mpr (by simpa [State.ReaderStreams] using hreader)
    rw [State.pause_st]
    split <;> simp
  | sleep hst hslp =>
    have hreader := (State.streamInv_iff_of_reader (.inr (.inl hst))).mp hs
    refine (State.streamInv_iff_of_reader ?_).mpr hreader
    rw [State.sleepOn_st]
    split <;> simp
  | refuse hst => exact State.streamInv_of_idle hst
  | sendFail | sendLastOfSendOnly | waitTimeout | waitFail | checkOk | checkMarker | checkChecksum =>
    exact State.streamInv_of_idle rfl

/-- Settles O48: reset leads to `IDLE`, where the streams owe nothing; a push lengthens the part of the command
that has been sent and a pop the part of the stream that is buffered, each by the byte it moves. -/
theorem stepKeepsStreamInv : Obligations.StepKeepsStreamInv := by
  rintro s t ⟨-, hphase⟩ hstream h
  obtain ⟨-, rfl⟩ | ⟨-, m, hm, rfl⟩ := step_cases h
  · exact State.streamInv_of_idle rfl
  · exact hm.keeps_streamInv hphase hstream

end Sys2Proof.Machine

/-!
SUPPORT. The Command Encoder: what a `SEND` form answers for each behaviour of the transport, and its frame
(40_command_encoder.md R62 to R65).
-/
namespace Sys2Proof.Machine

section
variable {c : Command} {s : State} (hst : s.st = .send) (hc : s.opr.command = c)
include hst hc

theorem sendTick_of_fail (hf : s.now.txFail = true) : sendTick c s = .next (s.complete .xportWrFail) := by
  simp only [sendTick, hst, hc, hf, and_self, if_true]

theorem sendTick_of_stall (hf : s.now.txFail = false) (hr : s.now.txReady = false) : sendTick c s = .next s := by
  simp [sendTick, hst, hc, hf, hr]

theorem sendTick_of_byte (hf : s.now.txFail = false) (hr : s.now.txReady = true) {b : Byte}
    (hb : cmdByte c s.txi.toNat = some b) (h8 : s.txi ≠ 8) : sendTick c s = .next (s.txPush b).nextCommandByte := by
  simp only [sendTick, hst, hc, hf, hr, hb, h8, and_self, if_true, if_false, Bool.false_eq_true]

/-- The ninth byte of a command is byte 8 of its row of `CMDROM` (R36). -/
theorem sendTick_of_lastByte (hf : s.now.txFail = false) (hr : s.now.txReady = true) (h8 : s.txi = 8) :
    sendTick c s = .next (lastByteSent (s.txPush (cmdRom c).b8)) := by
  have hb : cmdByte c 8 = some (cmdRom c).b8 := rfl
  simp [sendTick, hst, hc, hf, hr, h8, hb]

end

/-- A byte before the last writes two fields (R62). -/
theorem State.nextCommandByte_txPush (s : State) (b : Byte) :
    (s.txPush b).nextCommandByte = { s with txi := s.txi + 1, txStream := s.txStream ++ [b] } := rfl

theorem lastByteSent_of_read {s : State} (h : s.opr.isRead = true) : lastByteSent s = s.enterReader := if_pos h

theorem lastByteSent_of_sendOnly {s : State} (h : s.opr.isRead = false) : lastByteSent s = s.complete .ok :=
  if_neg (by simp [h])

/-- A send-only operation ends with its command's ninth byte, whichever command it is (R64, R65). -/
theorem exec_lastByte_sendOnly {s : State} {op : HostOp} (hst : s.st = .send) (hf : s.now.txFail = false)
    (hr : s.now.txReady = true) (h8 : s.txi = 8) (hop : s.opr = op) (hread : op.isRead = false) :
    exec op.command.instr s = .next ((s.txPush (cmdRom op.command).b8).complete .ok) := by
  subst hop
  rw [exec_command, sendTick_of_lastByte hst rfl hf hr h8, lastByteSent_of_sendOnly (s := s.txPush _) hread]

/-- Settles O20: `CMDROM` has a byte for every `TXI` below 8. -/
theorem sendByte : Obligations.SendByte := by
  intro c s hst hc hf hr h8
  obtain ⟨b, hb⟩ := cmdByte_of_le (c := c) h8.le
  have hne : s.txi ≠ 8 := by rintro e; simp [e] at h8
  refine ⟨b, cmdByte_eq .. ▸ hb, ?_⟩
  rw [exec_command, sendTick_of_byte hst hc hf hr hb hne, State.nextCommandByte_txPush]

/-- Settles O21: the ninth byte of the Read command is 121, and a read operation goes on to the reader. -/
theorem sendReadLastByte : Obligations.SendReadLastByte := by
  intro s hst hread hf hr h8
  have htick := sendTick_of_lastByte hst (HostOp.command_of_isRead hread) hf hr h8
  rw [lastByteSent_of_read (s := s.txPush _) hread] at htick
  exact htick

/-- Settles O22: the ninth bytes of the two send-only commands are 120 and 134. -/
theorem sendOnlyLastByte : Obligations.SendOnlyLastByte :=
  fun _ hst hf hr h8 =>
    ⟨fun hop => exec_lastByte_sendOnly hst hf hr h8 hop rfl, fun hop => exec_lastByte_sendOnly hst hf hr h8 hop rfl⟩

/-- Settles O23: `tx_fail` is looked at before `tx_ready`. -/
theorem sendWriteFailure : Obligations.SendWriteFailure := by
  intro c s hst hc hf
  rw [exec_command, sendTick_of_fail hst hc hf]
  rfl

/-- Settles O24: without a failure and without readiness no branch of the tick writes anything. -/
theorem sendStall : Obligations.SendStall := by
  intro c s hst hc hf hr
  rw [exec_command, sendTick_of_stall hst hc hf hr]

/-- Settles O25, by what a `SEND` form can answer: only `complete` writes more than the transmit side and the
reader's start. -/
theorem sendFrame : Obligations.SendFrame := by
  intro c s t h
  rw [exec_command] at h
  obtain ⟨hst, -, ⟨-, rfl⟩ | ⟨-, -, rfl⟩ | ⟨-, -, b, -, ⟨-, rfl⟩ | ⟨-, rfl⟩⟩⟩ := sendTick_next h
  · simp
  · simpa using .inl hst
  · unfold lastByteSent
    split <;> simp
  · simp [hst, State.nextCommandByte_txPush]

end Sys2Proof.Machine

/-!
SUPPORT. The Frame Reader: its clock and its byte count, the bound on how long it lasts, and what a `WAIT` and a `SLEEP`
tick answer (41_frame_reader.md R69 to R72).
-/
namespace Sys2Proof

/-- Storing a byte in an entry of `BUF` leaves the eight others (R16). -/
theorem Frame.get?_set_of_le (f : Frame) {k : Nat} (hk : k ≤ 8) (b : Byte) (i : Nat) :
    (f.set k b).get? i = if i = k then some b else f.get? i := by
  rw [Frame.get?_set]
  by_cases h : i = k
  · subst h
    obtain ⟨c, hc⟩ := Frame.get?_lt (f := f) hk
    simp [hc]
  · rw [if_neg (Ne.symm h), if_neg h]

end Sys2Proof

namespace Sys2Proof.Machine

/-- Settles O15: `IDLE` looks at `start` and `op`, `SLEEP` and `CHECK` at no port. -/
theorem transportIgnoredOutsideSendAndWait : Obligations.TransportIgnoredOutsideSendAndWait := by
  intro s i j rest hst
  refine step_withInputs_congr s rfl rfl rfl ?_
  obtain e | e | e := hst <;> rw [e]
  · exact ⟨rfl, rfl⟩
  · trivial
  · trivial

/-! ### The reader's clock -/

section
variable {s : State}

/-- Up to the deadline the clock does not saturate: `TMO` has `TW` bits and `ELAPSED` one more (R33). -/
theorem State.WidthInv.satElapsed_of_le_tmo (hw : s.WidthInv) (h : s.elapsed ≤ s.tmo) :
    satElapsed s.params (s.elapsed + 1) = s.elapsed + 1 := by
  obtain ⟨-, -, htmo, -⟩ := hw
  have hpow : 2 ^ (s.params.tw + 1) = 2 ^ s.params.tw * 2 := Nat.pow_succ ..
  unfold satElapsed
  omega

/-- The clock never runs backwards, saturated or not. -/
theorem State.WidthInv.le_satElapsed (hw : s.WidthInv) : s.elapsed ≤ satElapsed s.params (s.elapsed + 1) := by
  obtain ⟨-, -, -, helapsed⟩ := hw
  unfold satElapsed
  omega

theorem PhaseStep.keeps_timerInv {m : State} (h : PhaseStep s m) (hi : s.Inv) (ht : s.TimerInv) : m.TimerInv := by
  obtain ⟨hw, hphase⟩ := hi
  have ⟨hcount, _⟩ := ht
  cases h with
  | rest | sendStall => exact ht
  | sendLastOfRead hst =>
    obtain ⟨⟨hcnt, -⟩, -⟩ := (State.phaseInv_iff_of_send hst).mp hphase
    exact ⟨fun _ => by simp [hcnt], nofun⟩
  | waitByte hst hle hf ha h8 =>
    have hcnt := hcount (.inl hst)
    refine ⟨fun _ => ?_, nofun⟩
    calc (s.cnt + 1).toNat = s.cnt.toNat + 1 := State.toNat_cnt_add_one h8.le
      _ ≤ s.elapsed + 1 := by omega
      _ = satElapsed s.params (s.elapsed + 1) := (hw.satElapsed_of_le_tmo hle).symm
  | waitLastByte hst hle hf ha h8 =>
    have hcnt := hcount (.inl hst)
    rw [h8] at hcnt
    exact ⟨by simp, fun _ => hcnt.trans hle⟩
  | waitEmpty hst hle =>
    refine ⟨fun _ => ?_, fun hcheck => ?_⟩
    · rw [State.pause_cnt, State.pause_elapsed]
      exact (hcount (.inl hst)).trans hw.le_satElapsed
    · rw [State.pause_st] at hcheck
      split at hcheck <;> cases hcheck
  | sleep hst hslp =>
    refine ⟨fun _ => (hcount (.inr hst)).trans hw.le_satElapsed, fun hcheck => ?_⟩
    rw [State.sleepOn_st] at hcheck
    split at hcheck <;> cases hcheck
  | sendByte hst | refuse hst => simp [State.TimerInv, hst]
  | accept | sendFail | sendLastOfSendOnly | waitTimeout | waitFail | checkOk | checkMarker | checkChecksum =>
    exact ⟨by simp, nofun⟩

end

/-- Reset and every rule of a phase keep the clock ahead of the byte count. -/
theorem step_keeps_timerInv {s t : State} (hi : s.Inv) (ht : s.TimerInv) (h : step s = .next t) : t.TimerInv := by
  obtain ⟨-, rfl⟩ | ⟨-, m, hm, rfl⟩ := step_cases h
  · exact State.timerInv_resetWith s.params
  · exact hm.keeps_timerInv hi ht

/-- While an operation runs only a reset writes `TMO` (R34). -/
theorem step_tmo_of_busy {s t : State} (hst : s.st ≠ .idle) (h : step s = .next t) : t.st = .idle ∨ t.tmo = s.tmo := by
  obtain ⟨-, rfl⟩ | ⟨-, m, hm, rfl⟩ := step_cases h
  · exact .inl rfl
  · exact .inr (by simp [hm.tmo_eq, hst])

/-- Settles O49: a byte costs a tick, so the ninth needs eight ticks before it within the deadline; and a running operation
keeps its `TMO`, so `CHECK` after the tick needs `TMO` at least 8 before it. -/
theorem stepKeepsTimerInv : Obligations.StepKeepsTimerInv := by
  refine ⟨fun s t hi ht h => step_keeps_timerInv hi ht h, fun s t hi ht h htmo hst hcheck => ?_⟩
  obtain ⟨-, hframe⟩ := step_keeps_timerInv hi ht h
  have h8 := hframe hcheck
  obtain hidle | heq := step_tmo_of_busy hst h
  · rw [hidle] at hcheck
    cases hcheck
  · omega

/-! ### The reader ends -/

/-- A bound on the ticks the reader still lasts: up to the deadline one poll may yet start a pause of `POLL_TICKS`; past it
there is the rest of the pause and the poll that sees the timeout (R72 c). -/
def State.ticksLeft (s : State) : Nat :=
  if s.elapsed ≤ s.tmo then s.tmo - s.elapsed + 2 + s.params.pollTicks else s.slp + 1

theorem State.ticksLeft_of_le {s : State} (h : s.elapsed ≤ s.tmo) :
    s.ticksLeft = s.tmo - s.elapsed + 2 + s.params.pollTicks := if_pos h

theorem State.ticksLeft_of_lt {s : State} (h : s.tmo < s.elapsed) : s.ticksLeft = s.slp + 1 := if_neg (by omega)

theorem State.readerBound_eq_ticksLeft {s : State} (h : s.elapsed = 0) : s.readerBound = s.ticksLeft := by
  rw [State.ticksLeft_of_le (by omega), h]
  rfl

theorem State.ticksLeft_pos (s : State) : 0 < s.ticksLeft := by
  unfold State.ticksLeft
  split <;> omega

/-- A tick counted before the deadline brings the end nearer, whatever pause it leads to. -/
theorem State.ticksLeft_lt_of_le {s m : State} (hle : s.elapsed ≤ s.tmo) (helapsed : m.elapsed = s.elapsed + 1)
    (htmo : m.tmo = s.tmo) (hparams : m.params = s.params) (hslp : m.slp ≤ s.params.pollTicks) :
    m.ticksLeft < s.ticksLeft := by
  rw [State.ticksLeft_of_le hle]
  by_cases hm : m.elapsed ≤ m.tmo
  · rw [State.ticksLeft_of_le hm, hparams]
    omega
  · rw [State.ticksLeft_of_lt (by omega)]
    omega

/-- A tick that stays in the reader is a poll before the deadline or a tick of the pause. -/
theorem PhaseStep.ticksLeft_lt {s m : State} (h : PhaseStep s m) (hi : s.Inv) (hs : s.InReader) (hm : m.InReader) :
    m.ticksLeft < s.ticksLeft := by
  obtain ⟨hw, hphase⟩ := hi
  cases h with
  | waitByte hst hle =>
    obtain ⟨⟨-, -, -, hslp⟩, -⟩ := (State.phaseInv_iff_of_wait hst).mp hphase
    exact State.ticksLeft_lt_of_le hle (hw.satElapsed_of_le_tmo hle) rfl rfl (by simp [hslp])
  | waitEmpty hst hle =>
    obtain ⟨⟨-, -, -, hslp⟩, -⟩ := (State.phaseInv_iff_of_wait hst).mp hphase
    refine State.ticksLeft_lt_of_le hle (by simp [hw.satElapsed_of_le_tmo hle]) (by simp) (by simp) ?_
    rw [State.pause_slp]
    split <;> simp [hslp]
  | sleep hst hslp =>
    obtain ⟨⟨-, -, -, -, hpause⟩, -⟩ := (State.phaseInv_iff_of_sleep hst).mp hphase
    by_cases hle : s.elapsed ≤ s.tmo
    · exact State.ticksLeft_lt_of_le hle (hw.satElapsed_of_le_tmo hle) rfl rfl (by simp; omega)
    · have hlt : s.tmo < satElapsed s.params (s.elapsed + 1) := by
        have := hw.le_satElapsed
        omega
      rw [State.ticksLeft_of_lt (s := s.countTick.sleepOn) hlt, State.ticksLeft_of_lt (by omega)]
      simp
      omega
  | _ => simp_all [State.InReader]

theorem step_ticksLeft_lt {s t : State} (hi : s.Inv) (hs : s.InReader) (h : step s = .next t) (ht : t.InReader) :
    t.ticksLeft < s.ticksLeft := by
  obtain ⟨-, rfl⟩ | ⟨-, m, hm, rfl⟩ := step_cases h
  · simp [State.InReader] at ht
  · exact hm.ticksLeft_lt hi hs ht

/-- From a state of the invariant the block is outside the reader within `ticksLeft` ticks. -/
theorem exists_ticks_not_inReader {k : Nat} {s : State} (hi : s.Inv) (hk : s.InReader → s.ticksLeft ≤ k) :
    ∃ n t, n ≤ k ∧ ticks n s = .next t ∧ ¬ t.InReader := by
  induction k generalizing s with
  | zero => exact ⟨0, s, le_rfl, rfl, fun hs => absurd s.ticksLeft_pos (by simpa using hk hs)⟩
  | succ k ih =>
    by_cases hs : s.InReader
    · obtain ⟨t, hstep⟩ := neverStops s hi
      have hnear (ht : t.InReader) : t.ticksLeft ≤ k :=
        Nat.le_of_lt_succ ((step_ticksLeft_lt hi hs hstep ht).trans_le (hk hs))
      obtain ⟨n, u, hn, hrun, hu⟩ := ih (stepKeepsInv s t hi hstep) hnear
      exact ⟨n + 1, u, Nat.succ_le_succ hn, (ticks_succ hstep).trans hrun, hu⟩
    · exact ⟨0, s, Nat.zero_le _, rfl, hs⟩

/-- Settles O32: at the reader's entry the bound is `ticksLeft`, which every tick inside the reader brings down. -/
theorem readerBounded : Obligations.ReaderBounded :=
  fun _ hi _ helapsed => exists_ticks_not_inReader hi fun _ => (State.readerBound_eq_ticksLeft helapsed).ge

/-! ### The branches of a `WAIT` and a `SLEEP` tick -/

theorem step_wait {s : State} (hr : s.now.rst = false) (hst : s.st = .wait) :
    step s = endOfTick s.now (waitTick s) := by
  rw [step_phase hr, phaseTick_wait hst]

theorem waitTick_of_timeout {s : State} (ht : s.tmo < s.elapsed) : waitTick s = .next (s.complete .readTimeout) :=
  if_pos (by simpa [State.expired] using ht)

section
variable {s : State} (ht : s.elapsed ≤ s.tmo)
include ht

theorem State.not_expired : ¬ s.expired = true := by
  simpa [State.expired] using ht

theorem waitTick_of_fail (hf : s.now.rxFail = true) : waitTick s = .next (s.complete .xportRdFail) := by
  unfold waitTick
  rw [if_neg (State.not_expired ht), if_pos hf]

theorem waitTick_of_byte (hf : s.now.rxFail = false) (ha : s.now.rxAvail = true) (h8 : s.cnt.toNat ≤ 8) :
    waitTick s = .next ((s.rxPop s.now.rxData).countTick.goto (if s.cnt = 8 then .check else .wait)) := by
  unfold waitTick
  rw [if_neg (State.not_expired ht), if_neg (by simp [hf]), if_pos ha, if_pos h8]

theorem waitTick_of_noByte (hf : s.now.rxFail = false) (ha : s.now.rxAvail = false) :
    waitTick s = .next s.countTick.pause := by
  unfold waitTick
  rw [if_neg (State.not_expired ht), if_neg (by simp [hf]), if_neg (by simp [ha])]

end

/-- Settles O27: the deadline is tested before anything else. -/
theorem waitTimeout : Obligations.WaitTimeout := by
  intro s hr hst ht
  have hpop : ¬ s.pops = true := fun hp => by
    obtain ⟨-, -, hle, -⟩ := s.pops_iff.mp hp
    omega
  refine ⟨?_, Bool.eq_false_iff.mpr hpop⟩
  rw [step_wait hr hst, waitTick_of_timeout ht]
  rfl

/-- Settles O28: a failure is tested before the byte. -/
theorem waitReadFailure : Obligations.WaitReadFailure := by
  intro s hr hst ht hf
  have hpop : ¬ s.pops = true := by simp [State.pops_iff, hf]
  refine ⟨?_, Bool.eq_false_iff.mpr hpop⟩
  rw [step_wait hr hst, waitTick_of_fail ht hf]
  rfl

/-- Settles O29: the buffer after the tick is the old one with the byte at `CNT`. -/
theorem waitByte : Obligations.WaitByte := by
  intro s hr hst ht hf ha h8
  refine ⟨s.buf.set s.cnt.toNat s.now.rxData, ?_, fun i _ => Frame.get?_set_of_le s.buf h8 _ i,
    s.pops_iff.mpr ⟨hr, hst, ht, hf, ha⟩⟩
  rw [step_wait hr hst, waitTick_of_byte ht hf ha h8]
  rfl

/-- Settles O30, by the two branches of `pause`. -/
theorem waitNoByte : Obligations.WaitNoByte := by
  intro s hr hst ht hf ha
  rw [step_wait hr hst, waitTick_of_noByte ht hf ha, endOfTick_next]
  refine ⟨fun hpoll => ?_, fun hpoll => ?_⟩
  · rw [State.pause, if_pos (show s.countTick.params.pollTicks > 0 from hpoll)]
    rfl
  · rw [State.pause, if_neg (show ¬ s.countTick.params.pollTicks > 0 from hpoll.not_gt), ← hst]
    rfl

/-- Settles O31 (`sleepTick` itself is the name of the rule): only the guard `SLP = 0`, which the hypothesis excludes, could stop the tick. -/
theorem sleepTick_obligation : Obligations.SleepTick := by
  intro s hr hst hslp
  have hpush : ¬ s.pushes = true := by simp [State.pushes_iff, hst]
  have hpop : ¬ s.pops = true := by simp [State.pops_iff, hst]
  obtain ⟨h0, -⟩ | ⟨-, e⟩ := sleepTick_cases s
  · omega
  · refine ⟨?_, Bool.eq_false_iff.mpr hpush, Bool.eq_false_iff.mpr hpop⟩
    rw [step_phase hr, phaseTick_sleep hst, e]
    rfl

end Sys2Proof.Machine

/-!
SUPPORT. The Frame Validator and Decoder: the calculated checksum as a number, when a checksum matches, what `DECODE`
makes of each kind of frame, and what the `CHECK` tick writes for each of its results (42_validator_decoder.md R76 to R85).
-/
namespace Sys2Proof

/-! ### The calculated checksum -/

/-- Seven bytes cannot sum to more than `7 * 255` (R82). -/
theorem Frame.payloadSum_le (f : Frame) : f.payloadSum ≤ 1785 := by
  unfold Frame.payloadSum
  omega

theorem Frame.toNat_calculated (f : Frame) : f.calculated.toNat = 256 - f.payloadSum % 256 := by
  unfold Frame.calculated complementByte
  rw [BitVec.toNat_ofNat]
  omega

/-- Eleven bits hold the payload sum (R78). -/
theorem Frame.toNat_sum_setWidth (f : Frame) :
    (f.b1.setWidth 11 + f.b2.setWidth 11 + f.b3.setWidth 11 + f.b4.setWidth 11 + f.b5.setWidth 11 +
      f.b6.setWidth 11 + f.b7.setWidth 11).toNat = f.payloadSum := by
  unfold Frame.payloadSum
  simp only [BitVec.toNat_add, BitVec.toNat_setWidth]
  omega

/-- The low byte of the complement, incremented on nine bits, is 256 less the low byte (00_scope.md R11). -/
theorem toNat_complement_and_add_one (v : BitVec 11) :
    ((~~~v &&& 0xFF).setWidth 9 + 1 : BitVec 9).toNat = 256 - v.toNat % 256 := by
  have hmask : (~~~v &&& 0xFF).toNat = (2047 - v.toNat) % 256 := by
    rw [BitVec.toNat_and, BitVec.toNat_not]
    exact Nat.and_two_pow_sub_one_eq_mod _ 8
  rw [BitVec.toNat_add, BitVec.toNat_setWidth, hmask]
  simp only [BitVec.reduceToNat]
  omega

/-- Settles O33: both sides are 256 less the payload sum modulo 256. -/
theorem calculatedChecksum : Obligations.CalculatedChecksum := by
  intro f
  refine ⟨BitVec.eq_of_toNat_eq ?_, f.toNat_calculated, f.payloadSum_le⟩
  rw [toNat_complement_and_add_one, f.toNat_sum_setWidth, f.toNat_calculated]

/-- The checksum matches when bytes 1 to 8 sum to 0 modulo 256; on nine bits a byte 8 of 0 never matches, as the
calculated value then is 256 (R80). -/
theorem Frame.checksumMatches_iff (wrap : Bool) (f : Frame) :
    f.checksumMatches wrap = true ↔ (f.payloadSum + f.b8.toNat) % 256 = 0 ∧ (wrap = false → f.b8 ≠ 0) := by
  have hcalc := f.toNat_calculated
  have hzero : f.b8 ≠ 0 ↔ f.b8.toNat ≠ 0 := not_congr BitVec.toNat_inj.symm
  rw [hzero]
  cases wrap with
  | false =>
    simp only [Frame.checksumMatches, Bool.false_eq_true, if_false, beq_iff_eq, forall_const]
    rw [← BitVec.toNat_inj, BitVec.toNat_setWidth, hcalc]
    omega
  | true =>
    simp only [Frame.checksumMatches, if_true, beq_iff_eq, Bool.true_eq_false, false_implies, and_true]
    rw [← BitVec.toNat_inj, BitVec.toNat_setWidth, hcalc]
    omega

/-! ### The three results of `DECODE` -/

section
variable {wrap : Bool} {f : Frame}

theorem Frame.reading_of_wrongMarker (h0 : f.b0 ≠ 0xFF) : f.reading wrap = .badMarker := if_pos h0

theorem Frame.reading_of_match (h0 : f.b0 = 0xFF) (hm : f.checksumMatches wrap = true) :
    f.reading wrap = .ok f.ppm f.temperature := by
  rw [Frame.reading, if_neg (not_not_intro h0), if_pos hm]

theorem Frame.reading_of_mismatch (h0 : f.b0 = 0xFF) (hm : ¬ f.checksumMatches wrap = true) :
    f.reading wrap = .badChecksum f.b8 f.calculated := by
  rw [Frame.reading, if_neg (not_not_intro h0), if_neg hm]

/-- What a frame must be to be read as `OK` (R77, R78). -/
theorem Frame.valid_of_reading {p : BitVec 16} {q : BitVec 9} (h : f.reading wrap = .ok p q) :
    f.b0 = 0xFF ∧ f.checksumMatches wrap = true := by
  unfold Frame.reading at h
  split_ifs at h with h0 hm
  exact ⟨not_not.mp h0, hm⟩

end

/-- Settles O34: the model's own two tests, the second in the form of `checksumMatches_iff`. -/
theorem decodeClosedForm : Obligations.DecodeClosedForm := by
  intro wrap f
  simp only [← f.checksumMatches_iff wrap]
  rfl

/-- Settles O35: a frame with the right marker is read as `OK` or `BAD_CHECKSUM`. -/
theorem markerFirst : Obligations.MarkerFirst := by
  refine fun wrap f => ⟨fun h h0 => ?_, Frame.reading_of_wrongMarker⟩
  by_cases hm : f.checksumMatches wrap = true
  · rw [Frame.reading_of_match h0 hm] at h
    cases h
  · rw [Frame.reading_of_mismatch h0 hm] at h
    cases h

theorem Frame.toNat_ppm (f : Frame) : f.ppm.toNat = f.b2.toNat * 256 + f.b3.toNat := by
  rw [Frame.ppm, BitVec.toNat_append, ← Nat.shiftLeft_add_eq_or_of_lt f.b3.isLt, Nat.shiftLeft_eq]

/-- Settles O36: the fields of a matching frame as numbers. -/
theorem extraction : Obligations.Extraction :=
  fun _ f h0 hm => ⟨f.ppm, f.temperature, Frame.reading_of_match h0 hm, f.toNat_ppm, f.toInt_temperature⟩

/-- Sent behind its payload, the calculated checksum matches, unless it is 256 and does not fit the byte (R83). -/
theorem Frame.checksumMatches_calculated (f : Frame) (hsum : f.payloadSum % 256 ≠ 0) :
    ({ f with b8 := f.calculated.setWidth 8 } : Frame).checksumMatches false = true := by
  have hfits : f.calculated.toNat < 256 := by
    rw [f.toNat_calculated]
    omega
  show (f.calculated == (f.calculated.setWidth 8).setWidth 9) = true
  rw [beq_iff_eq, ← BitVec.toNat_inj, BitVec.toNat_setWidth, BitVec.toNat_setWidth]
  omega

/-- A calculated value of 256 is no byte 8 (90_conflicts.md C1). -/
theorem Frame.not_checksumMatches_of_calculated {f : Frame} (hcalc : f.calculated = 256) :
    ¬ f.checksumMatches false = true := by
  show ¬ (f.calculated == f.b8.setWidth 9) = true
  rw [beq_iff_eq, hcalc, ← BitVec.toNat_inj, BitVec.toNat_setWidth]
  have := f.b8.isLt
  simp only [BitVec.reduceToNat]
  omega

/-- Settles O37: byte 8 has no part in the calculated checksum, so a frame's own is that of its payload. -/
theorem roundTrip : Obligations.RoundTrip := by
  refine fun f h0 => ⟨fun hsum => Frame.reading_of_match h0 (f.checksumMatches_calculated hsum), fun hsum b => ?_⟩
  have hcalc : f.calculated = 256 := by
    rw [← BitVec.toNat_inj, f.toNat_calculated, hsum]
    rfl
  rw [← hcalc]
  exact Frame.reading_of_mismatch h0 (Frame.not_checksumMatches_of_calculated hcalc)

/-! ### Changed bytes -/

theorem Frame.b0_set (f : Frame) {i : Nat} (h : 1 ≤ i) (b : Byte) : (f.set i b).b0 = f.b0 := by
  match i with
  | 1 | 2 | 3 | 4 | 5 | 6 | 7 | 8 | n + 9 => rfl

/-- Bytes 1 to 8 enter the tested sum with weight 1. -/
theorem Frame.sum_set (f : Frame) {i : Nat} (h1 : 1 ≤ i) (h8 : i ≤ 8) {c : Byte} (hc : f.get? i = some c) (b : Byte) :
    (f.set i b).payloadSum + (f.set i b).b8.toNat + c.toNat = f.payloadSum + f.b8.toNat + b.toNat := by
  interval_cases i <;> cases hc <;> simp only [Frame.set, Frame.payloadSum] <;> omega

/-- Two different bytes differ modulo 256, so one changed byte spoils a sum that was 0 (R84). -/
theorem Frame.not_checksumMatches_set {wrap : Bool} {f : Frame} {i : Nat} (h1 : 1 ≤ i) (h8 : i ≤ 8) {b : Byte}
    (hm : f.checksumMatches wrap = true) (hb : f.get? i ≠ some b) : ¬ (f.set i b).checksumMatches wrap = true := by
  intro hm'
  obtain ⟨hmod, -⟩ := (Frame.checksumMatches_iff ..).mp hm
  obtain ⟨hmod', -⟩ := (Frame.checksumMatches_iff ..).mp hm'
  obtain ⟨c, hc⟩ := Frame.get?_lt (f := f) h8
  have hsum := f.sum_set h1 h8 hc b
  have hcb : c = b := BitVec.eq_of_toNat_eq (by omega)
  exact hb (hcb ▸ hc)

/-- Settles O38: a changed marker fails the first test, any other changed byte the second; bytes 2 and 3 changed by 1 in
opposite directions keep the sum. -/
theorem singleByteMutation : Obligations.SingleByteMutation := by
  refine ⟨fun wrap f i b hok h8 hb => ?_, ?_⟩
  · obtain ⟨h0, hm⟩ := Frame.valid_of_reading hok
    split
    · next hi =>
      subst hi
      exact Frame.reading_of_wrongMarker fun e : b = 0xFF => hb (congrArg some (h0.trans e.symm))
    · next hi =>
      have h1 : 1 ≤ i := Nat.one_le_iff_ne_zero.mpr hi
      exact Frame.reading_of_mismatch (f.b0_set h1 b ▸ h0) (Frame.not_checksumMatches_set h1 h8 hm hb)
  · exact ⟨{ b0 := 255, b1 := 1, b2 := 3, b3 := 32, b4 := 63, b5 := 0, b6 := 0, b7 := 0, b8 := 157 }, 4, 31, by decide⟩

/-- Settles O39: the payload 1, 3, 32, 63 sums to 99, and 157 is the one byte that brings it to 256. -/
theorem workedExample : Obligations.WorkedExample := by
  intro x
  split
  · next hx => subst hx; rfl
  · next hx =>
    refine Frame.reading_of_mismatch rfl fun hm => hx (BitVec.eq_of_toNat_eq (show x.toNat = 157 from ?_))
    obtain ⟨hmod, -⟩ := (Frame.checksumMatches_iff ..).mp hm
    have hmod' : (99 + x.toNat) % 256 = 0 := hmod
    omega

end Sys2Proof

namespace Sys2Proof.Machine

/-! ### The `CHECK` tick -/

theorem execDecode_of_check {f : Frame} {s : State} (hst : s.st = .check) :
    execDecode f s = .next (finishReading (f.reading s.params.cksumWrap) s) := if_pos hst

/-- The recorded reading field by field: `READ_PPM_TEMP` alone decides over the temperature (R81). -/
theorem State.recordReading_eq (p : BitVec 16) (q : BitVec 9) (s : State) :
    s.recordReading p q = { s with
      ppm := p, ppmValid := true,
      temp := if s.opr = .readPpmTemp then q else s.temp,
      tempValid := if s.opr = .readPpmTemp then true else s.tempValid } := by
  unfold State.recordReading
  split <;> rfl

/-- Settles O40: a matching frame ends the tick through `recordReading`. -/
theorem checkValid : Obligations.CheckValid := by
  intro f s hst h0 hm
  rw [exec_decode, execDecode_of_check hst, Frame.reading_of_match h0 hm, finishReading, State.recordReading_eq]
  rfl

/-- Settles O41: a wrong marker ends the tick with `complete` alone. -/
theorem checkBadMarker : Obligations.CheckBadMarker := by
  intro f s hst h0
  rw [exec_decode, execDecode_of_check hst, Frame.reading_of_wrongMarker h0]
  rfl

/-- Settles O42: a wrong checksum ends the tick through `recordChecksum`. -/
theorem checkBadChecksum : Obligations.CheckBadChecksum := by
  intro f s hst h0 hm
  rw [exec_decode, execDecode_of_check hst, Frame.reading_of_mismatch h0 (by simp [hm])]
  rfl

/-- Settles O43, by the three results of `DECODE`: each writes its own registers before `complete`. -/
theorem decodeFrame : Obligations.DecodeFrame := by
  intro f s t h
  obtain ⟨-, rfl⟩ := execDecode_next h
  cases f.reading s.params.cksumWrap with
  | ok p q => simp +contextual [finishReading]
  | badMarker => simp [finishReading]
  | badChecksum r k => simp [finishReading]

end Sys2Proof.Machine

/-!
SUPPORT. The host operations: what a `start` does in `IDLE` and why it does nothing elsewhere
(43_composite_operations.md R86 to R93).
-/
namespace Sys2Proof.Machine

/-! ### The start of an operation as an instruction -/

theorem issueStart_of_idle {op : HostOp} {s : State} (hst : s.st = .idle) :
    issueStart op s = .next (s.acceptStart op) := if_pos hst

theorem issueStart_of_busy {op : HostOp} {s : State} (hst : s.st ≠ .idle) : issueStart op s = .next s := if_neg hst

/-- Settles O17: the meaning of all four is `issueStart`, which accepts in `IDLE`. -/
theorem hostOperationAccepted : Obligations.HostOperationAccepted := by
  intro op s hst
  rw [exec_hostOp, issueStart_of_idle hst]
  rfl

/-- Settles O18: outside `IDLE` `issueStart` leaves the state alone. -/
theorem hostOperationIgnoredWhileBusy : Obligations.HostOperationIgnoredWhileBusy := by
  intro op s hst
  rw [exec_hostOp, issueStart_of_busy hst]

/-- Settles O19, by the two things a `start` can do. -/
theorem hostOperationFrame : Obligations.HostOperationFrame := by
  intro op s t h
  rw [exec_hostOp] at h
  obtain ⟨hst, e⟩ | ⟨-, e⟩ := issueStart_cases op s <;> rw [e] at h <;> cases h
  · simp [hst]
  · simp

/-! ### The `IDLE` tick -/

/-- An `IDLE` tick drives neither handshake (R86 to R88). -/
theorem State.outputs_of_idle {s : State} (hst : s.st = .idle) :
    s.outputs.txPush = false ∧ s.outputs.rxPop = false := by
  simp [State.outputs, State.pushes, State.pops, hst]

/-- Settles O13: the rule of the phase is to do nothing, so what remains is the configuration write. -/
theorem idleTick : Obligations.IdleTick := by
  intro s hr hst hs
  refine ⟨?_, State.outputs_of_idle hst⟩
  rw [step_phase hr, phaseTick_rest hst hs, endOfTick_next]

/-- Settles O11: the four reserved codes share one outcome of the decoder, and with it one rule. -/
theorem refusedStart : Obligations.RefusedStart := by
  intro s hr hst hs hop
  refine ⟨?_, State.outputs_of_idle hst⟩
  rw [step_phase hr, phaseTick_refuse hst hs hop]
  rfl

/-- Settles O12: the counters and the buffer are not written, and the `IDLE` row of R38 says that they are 0. -/
theorem acceptedStart : Obligations.AcceptedStart := by
  intro s op hr hst hs hop
  obtain ⟨hpush, hpop⟩ := State.outputs_of_idle hst
  refine ⟨?_, hpush, hpop, fun ⟨_, hphase⟩ => ?_⟩
  · rw [step_phase hr, phaseTick_accept hst hs hop]
    rfl
  · obtain ⟨⟨hcnt, htxi, helapsed, hslp, hbuf⟩, -⟩ := (State.phaseInv_iff_of_idle hst).mp hphase
    exact ⟨htxi, hcnt, hbuf, helapsed, hslp⟩

/-! ### A start while busy -/

/-- Of all phases only `IDLE` looks at `start` and `op` (R89). -/
theorem Phase.seesSame_start_op {p : Phase} (hp : p ≠ .idle) (i : Inputs) (start : Bool) (op : BitVec 3) :
    p.SeesSame { i with start := start, op := op } i := by
  cases p with
  | idle => exact absurd rfl hp
  | send => exact ⟨rfl, rfl⟩
  | wait => exact ⟨rfl, rfl, fun _ => rfl⟩
  | sleep | check => trivial

/-- Settles O14: the two records of inputs differ in no port that a busy tick looks at. -/
theorem busyStartIgnored : Obligations.BusyStartIgnored :=
  fun s i _ start op hst => step_withInputs_congr s rfl rfl rfl (Phase.seesSame_start_op hst i start op)

end Sys2Proof.Machine

/-!
SUPPORT. Every way an accepted operation ends is `complete` (60_exceptions.md R96, R99).
-/
namespace Sys2Proof.Machine

/-- The registers that the decoder records (10_state.md R24, R27, R28, R30, R31) hold the same in both states. -/
def State.SameDecoded (u s : State) : Prop :=
  u.ppm = s.ppm ∧ u.ppmValid = s.ppmValid ∧ u.temp = s.temp ∧ u.tempValid = s.tempValid ∧
  u.ckRecv = s.ckRecv ∧ u.ckCalc = s.ckCalc

theorem State.sameDecoded_refl (s : State) : s.SameDecoded s := ⟨rfl, rfl, rfl, rfl, rfl, rfl⟩

theorem State.sameDecoded_txPush (s : State) (b : Byte) : (s.txPush b).SameDecoded s := ⟨rfl, rfl, rfl, rfl, rfl, rfl⟩

/-- A busy rule that leads to `IDLE` is `complete` after at most a push or what the decoder writes, and neither of these touches
`CNT` or `OPR` (R96). -/
theorem PhaseStep.ending_eq_complete {s m : State} (h : PhaseStep s m) (hs : s.st ≠ .idle) (hm : m.st = .idle) :
    ∃ (u : State) (outcome : Status), m = u.complete outcome ∧
      outcome ∈ [Status.ok, .readTimeout, .badMarker, .badChecksum, .xportWrFail, .xportRdFail] ∧
      u.cnt = s.cnt ∧ u.opr = s.opr ∧ (s.st ≠ .check → u.SameDecoded s) := by
  cases h with
  | rest hst | accept hst | refuse hst => exact absurd hst hs
  | sendStall | sendByte => exact absurd hm hs
  | sendLastOfRead | waitByte | waitLastByte => cases hm
  | waitEmpty =>
    rw [State.pause_st] at hm
    split at hm <;> cases hm
  | sleep =>
    rw [State.sleepOn_st] at hm
    split at hm <;> cases hm
  | sendFail | waitTimeout | waitFail | checkMarker =>
    exact ⟨s, _, rfl, by simp, rfl, rfl, fun _ => s.sameDecoded_refl⟩
  | sendLastOfSendOnly hst hf hr b => exact ⟨s.txPush b, .ok, rfl, by simp, rfl, rfl, fun _ => s.sameDecoded_txPush b⟩
  | checkOk hst => exact ⟨_, .ok, rfl, by simp, State.recordReading_cnt .., State.recordReading_opr .., absurd hst⟩
  | checkChecksum hst => exact ⟨_, .badChecksum, rfl, by simp, rfl, rfl, absurd hst⟩

/-- `CNT` in the two phases that end with a fixed number of bytes received (R38). -/
theorem State.PhaseInv.cnt_of_check {s : State} (h : s.PhaseInv) (hst : s.st = .check) : s.cnt = 9 := by
  obtain ⟨⟨-, hcnt, -⟩, -⟩ := (State.phaseInv_iff_of_check hst).mp h
  exact hcnt

theorem State.PhaseInv.cnt_of_send {s : State} (h : s.PhaseInv) (hst : s.st = .send) : s.cnt = 0 := by
  obtain ⟨⟨hcnt, -⟩, -⟩ := (State.phaseInv_iff_of_send hst).mp h
  exact hcnt

/-- Settles O44: the rule of the phase is a `complete`; what the tick does to `TIMEOUT` and `TMO` is said by
`timeoutWrittenByHostOnly` and `PhaseStep.tmo_eq`. -/
theorem everyEndingCompletes : Obligations.EveryEndingCompletes := by
  intro s t h hr hs ht
  have htimeout := timeoutWrittenByHostOnly s t h hr
  obtain ⟨hr', -⟩ | ⟨-, m, hm, rfl⟩ := step_cases h
  · rw [hr] at hr'; cases hr'
  have htmo : m.tmo = s.tmo := by simp [hm.tmo_eq, hs]
  obtain ⟨u, outcome, rfl, houtcome, hcnt, hopr, hdecoded⟩ := hm.ending_eq_complete hs ht
  exact ⟨rfl, houtcome, hcnt, rfl, rfl, rfl, rfl, rfl, hopr, htmo, htimeout, hdecoded, fun ⟨_, hphase⟩ =>
    ⟨fun hst => hcnt.trans (hphase.cnt_of_check hst), fun hst => hcnt.trans (hphase.cnt_of_send hst)⟩⟩

end Sys2Proof.Machine

/-!
SUPPORT. Reset: the values it leaves, and the tick that does it (70_reset_and_hazards.md R109, R110).
-/
namespace Sys2Proof.Machine

/-- In `IDLE` the ports show `DONE` and nothing else (10_state.md R14, R15). -/
theorem State.outputs_eq_of_idle {s : State} (hst : s.st = .idle) :
    s.outputs = { busy := false, done := s.done, txPush := false, txData := 0, rxPop := false } := by
  simp [State.outputs, State.busy, State.pushes, State.pops, hst]

/-- Settles O7: the fields of `resetWith`, and the ports of an idle block whose `DONE` is 0. -/
theorem resetValues : Obligations.ResetValues :=
  ⟨fun _ => ⟨rfl, rfl, rfl, rfl, fun _ hi => Frame.get?_zero hi, rfl, rfl, rfl, rfl, rfl, rfl, rfl, rfl, rfl, rfl, rfl,
    rfl, rfl, State.outputs_eq_of_idle rfl⟩, rfl, rfl, rfl⟩

/-- Settles O8: reset is tested before the rule of the phase, and both handshakes are low under it. -/
theorem resetTick : Obligations.ResetTick := by
  intro s hr
  have hpush : ¬ s.pushes = true := by simp [State.pushes_iff, hr]
  have hpop : ¬ s.pops = true := by simp [State.pops_iff, hr]
  exact ⟨step_rst hr, Bool.eq_false_iff.mpr hpush, if_neg hpush, Bool.eq_false_iff.mpr hpop⟩

end Sys2Proof.Machine

/-!
SUPPORT. Whole operations: how far an operation has come since its start, tick by tick, with a transport that accepts every
byte and has every byte ready (70_reset_and_hazards.md R125).
-/
namespace Sys2Proof

/-- The host starts `op` on this tick (R86). -/
abbrev Inputs.Starts (i : Inputs) (op : HostOp) : Prop :=
  i.rst = false ∧ i.start = true ∧ i.op = op.code.setWidth 3

/-- The transport accepts a byte on this tick (R62). -/
abbrev Inputs.Accepts (i : Inputs) : Prop := i.rst = false ∧ i.txFail = false ∧ i.txReady = true

/-- The transport has a byte ready on this tick (R69). -/
abbrev Inputs.Offers (i : Inputs) : Prop := i.rst = false ∧ i.rxFail = false ∧ i.rxAvail = true

theorem Frame.toBytes_injective : Function.Injective Frame.toBytes := by
  intro f g h
  simpa using congrArg Frame.ofBytes h

end Sys2Proof

namespace Sys2Proof.Machine

/-! ### Runs along a script -/

theorem State.now_of_script {s : State} {i : Inputs} {rest : List Inputs} (h : s.script = i :: rest) : s.now = i := by
  rw [State.now, h]

theorem step_script {s t : State} {i : Inputs} {rest : List Inputs} (h : step s = .next t)
    (hscript : s.script = i :: rest) : t.script = rest := by
  obtain ⟨-, htail, -⟩ := parametersNeverChange s t h
  rw [htail, hscript, List.tail_cons]

theorem ticks_add_one {n : Nat} {s t u : State} (h : ticks n s = .next t) (hstep : step t = .next u) :
    ticks (n + 1) s = .next u := by
  rw [ticks_add h, ticks_succ hstep, ticks_zero]

/-- A property of the inputs used up so far that every tick on `ins` carries on holds when all of `ins` is used up. -/
theorem exists_ticks_of_script {P : List Inputs → State → Prop} {ins rest : List Inputs} {s : State}
    (hscript : s.script = ins ++ rest) (h : P [] s)
    (hstep : ∀ past u, P past u → past.length < ins.length → u.now ∈ ins →
      ∃ t, step u = .next t ∧ P (past ++ [u.now]) t) :
    ∃ t, ticks ins.length s = .next t ∧ P ins t ∧ t.script = rest := by
  induction ins using List.reverseRecOn generalizing rest with
  | nil => exact ⟨s, rfl, h, hscript⟩
  | append_singleton past i ih =>
    rw [List.append_assoc, List.singleton_append] at hscript
    obtain ⟨u, hrun, hu, hrest⟩ := ih hscript fun past' v hv hlt hmem =>
      hstep past' v hv (by simp; omega) (List.mem_append_left _ hmem)
    have hnow := State.now_of_script hrest
    obtain ⟨t, ht, hP⟩ := hstep past u hu (by simp) (by simp [hnow])
    exact ⟨t, by rw [List.length_append]; exact ticks_add_one hrun ht, hnow ▸ hP, step_script ht hrest⟩

/-! ### How far an operation has come -/

/-- In `s` runs the operation `op` that was accepted in `b`. -/
structure Underway (b : State) (op : HostOp) (s : State) : Prop where
  inv : s.Inv
  opr : s.opr = op
  tmo : s.tmo = b.timeout
  params : s.params = b.params

/-- `n` bytes of its command have been handed over, and the next one is due. -/
structure Sending (b : State) (op : HostOp) (n : Nat) (s : State) : Prop extends Underway b op s where
  st : s.st = .send
  txi : s.txi.toNat = n
  txStream : s.txStream = b.txStream ++ (cmdRom op.command).toBytes.take n
  rxTaken : s.rxTaken = b.rxTaken

/-- The Read command has been handed over and the bytes `bs` have been received, one on each tick of the reader. -/
structure Receiving (b : State) (op : HostOp) (bs : List Byte) (s : State) : Prop extends Underway b op s where
  st : s.st = if bs.length = 9 then .check else .wait
  cnt : s.cnt.toNat = bs.length
  elapsed : s.elapsed = bs.length
  buf : s.buf.toBytes.take bs.length = bs
  txStream : s.txStream = b.txStream ++ (cmdRom .read).toBytes
  rxTaken : s.rxTaken = b.rxTaken ++ bs

/-- `OPR` is written by a start alone (R19). -/
theorem PhaseStep.opr_of_busy {s m : State} (h : PhaseStep s m) (hst : s.st ≠ .idle) : m.opr = s.opr := by
  cases h with
  | accept hidle => exact absurd hidle hst
  | _ => simp

section
variable {b s t : State} {op : HostOp} {n : Nat} {bs : List Byte}

/-- A busy tick without reset keeps the operation, its deadline and the parameters. -/
theorem Underway.keep (h : Underway b op s) (hst : s.st ≠ .idle) (hr : s.now.rst = false) (hstep : step s = .next t) :
    Underway b op t := by
  have hinv := stepKeepsInv s t h.inv hstep
  obtain ⟨hr', -⟩ | ⟨-, m, hm, rfl⟩ := step_cases hstep
  · rw [hr] at hr'; cases hr'
  · exact ⟨hinv, (hm.opr_of_busy hst).trans h.opr, (hm.tmo_eq.trans (by simp [hst])).trans h.tmo,
      hm.params_eq.trans h.params⟩

/-- The tick of the start (R86). -/
theorem exists_step_start (hi : s.Inv) (hst : s.st = .idle) (ha : s.now.Starts op) :
    ∃ t, step s = .next t ∧ Sending s op 0 t := by
  obtain ⟨hr, hs, hop⟩ := ha
  obtain ⟨hstep, -, -, hrest⟩ := acceptedStart s op hr hst hs hop
  obtain ⟨htxi, -⟩ := hrest hi
  exact ⟨_, hstep, {
    inv := stepKeepsInv s _ hi hstep, opr := rfl, tmo := rfl, params := rfl, st := rfl, rxTaken := rfl
    txi := congrArg BitVec.toNat htxi
    txStream := (List.append_nil _).symm }⟩

/-! ### The ticks of `SEND` -/

/-- A byte before the ninth (R62). -/
theorem Sending.exists_step_byte (h : Sending b op n s) (hn : n < 8) (hi : s.now.Accepts) :
    ∃ t, step s = .next t ∧ Sending b op (n + 1) t := by
  obtain ⟨hr, hf, hready⟩ := hi
  obtain ⟨x, hx⟩ := cmdByte_of_le (c := op.command) hn.le
  have hne : s.txi ≠ 8 := fun e => by have := h.txi; simp [e] at this; omega
  have hstep : step s = .next ((s.txPush x).nextCommandByte.configure s.now).nextTick := by
    rw [step_phase hr, phaseTick_send h.st, sendTick_of_byte h.st rfl hf hready (h.opr ▸ h.txi ▸ hx) hne, endOfTick_next]
  refine ⟨_, hstep, { h.keep (by simp [h.st]) hr hstep with
    st := h.st, txi := ?_, txStream := ?_, rxTaken := h.rxTaken }⟩
  · have htxi := h.txi
    show (s.txi + 1).toNat = n + 1
    bv_omega
  · show s.txStream ++ [x] = _
    rw [h.txStream, List.append_assoc, List.take_add_one, ← cmdByte_eq, hx, Option.toList_some]

/-- The ninth byte completes the command (R62). -/
theorem Sending.step_lastByte (h : Sending b op 8 s) (hi : s.now.Accepts) :
    step s = .next ((lastByteSent (s.txPush (cmdRom op.command).b8)).configure s.now).nextTick := by
  obtain ⟨hr, hf, hready⟩ := hi
  have h8 : s.txi = 8 := BitVec.eq_of_toNat_eq h.txi
  rw [step_phase hr, phaseTick_send h.st, sendTick_of_lastByte h.st rfl hf hready h8, endOfTick_next, h.opr]

theorem Sending.txStream_lastByte (h : Sending b op 8 s) :
    s.txStream ++ [(cmdRom op.command).b8] = b.txStream ++ (cmdRom op.command).toBytes := by
  rw [h.txStream, List.append_assoc]
  rfl

/-- A read operation goes on to the reader (R63, R68). -/
theorem Sending.exists_step_enterReader (h : Sending b op 8 s) (hread : op.isRead = true) (hi : s.now.Accepts) :
    ∃ t, step s = .next t ∧ Receiving b op [] t := by
  have hstep := h.step_lastByte hi
  rw [lastByteSent_of_read (s := s.txPush _) (h.opr ▸ hread)] at hstep
  obtain ⟨hr, -⟩ := hi
  have ⟨_, hphase⟩ := h.inv
  exact ⟨_, hstep, { h.keep (by simp [h.st]) hr hstep with
    st := rfl, elapsed := rfl, buf := rfl
    cnt := congrArg BitVec.toNat (hphase.cnt_of_send h.st)
    txStream := h.txStream_lastByte.trans (by rw [HostOp.command_of_isRead hread])
    rxTaken := h.rxTaken.trans (List.append_nil _).symm }⟩

/-! ### The ticks of `WAIT` -/

/-- With a timeout of at least 8 none of the nine polls is late (R72 e). -/
theorem Receiving.exists_step_byte (h : Receiving b op bs s) (h8 : 8 ≤ b.timeout) (hlt : bs.length < 9)
    (hi : s.now.Offers) : ∃ t, step s = .next t ∧ Receiving b op (bs ++ [s.now.rxData]) t := by
  obtain ⟨hr, hf, ha⟩ := hi
  have ⟨hw, _⟩ := h.inv
  have hst : s.st = .wait := h.st.trans (if_neg hlt.ne)
  have hcnt : s.cnt.toNat ≤ 8 := by rw [h.cnt]; omega
  have hle : s.elapsed ≤ s.tmo := by rw [h.elapsed, h.tmo]; omega
  have hstep := step_wait hr hst
  rw [waitTick_of_byte hle hf ha hcnt, endOfTick_next] at hstep
  have hlast : s.cnt = 8 ↔ (bs ++ [s.now.rxData]).length = 9 := by
    rw [← BitVec.toNat_inj, h.cnt, List.length_append]
    exact Nat.succ_inj.symm
  refine ⟨_, hstep, { h.keep (by simp [hst]) hr hstep with
    st := if_congr hlast rfl rfl, cnt := ?_, elapsed := ?_, buf := ?_, txStream := h.txStream, rxTaken := ?_ }⟩
  · rw [List.length_append, ← h.cnt]
    exact State.toNat_cnt_add_one hcnt
  · rw [List.length_append, ← h.elapsed]
    exact hw.satElapsed_of_le_tmo hle
  · have hbuf : (s.buf.set bs.length s.now.rxData).toBytes.take bs.length = bs :=
      (Frame.take_toBytes_set ..).trans h.buf
    simp [List.take_add_one, hbuf, Frame.getElem?_toBytes_set_self _ _ (Nat.le_of_lt_succ hlt), h.cnt]
  · simp [h.rxTaken]

end

/-! ### The two kinds of operation -/

/-- From the start to the tick of the ninth byte, the same for every operation (R86, R62). -/
theorem exists_ticks_lastByte {s : State} {op : HostOp} {a : Inputs} {sends rest : List Inputs} (hi : s.Inv)
    (hst : s.st = .idle) (hscript : s.script = a :: (sends ++ rest)) (ha : a.Starts op) (hlen : sends.length = 9)
    (hsends : ∀ i ∈ sends, i.Accepts) :
    ∃ u, ticks 9 s = .next u ∧ Sending s op 8 u ∧ u.now.Accepts ∧ u.script = u.now :: rest := by
  obtain rfl | ⟨first, last, rfl⟩ := List.eq_nil_or_concat' sends
  · cases hlen
  obtain rfl := State.now_of_script hscript
  obtain ⟨v, hstart, hv⟩ := exists_step_start hi hst ha
  have hv' := step_script hstart hscript
  rw [List.append_assoc, List.singleton_append] at hv'
  have hlen8 : first.length = 8 := by simpa using hlen
  obtain ⟨u, hrun, hu, hrest⟩ := exists_ticks_of_script (P := fun past => Sending s op past.length) hv' hv
    fun past w hw hlt hmem => by
      simpa using hw.exists_step_byte (hlen8 ▸ hlt) (hsends _ (List.mem_append_left _ hmem))
  rw [hlen8] at hrun hu
  obtain rfl := State.now_of_script hrest
  exact ⟨u, (ticks_succ hstart).trans hrun, hu, hsends _ (by simp), hrest⟩

/-- From the ninth byte of a read operation whose nine answer bytes are ready to its `CHECK` tick (R62, R69). -/
theorem Sending.exists_ticks_check {b u : State} {op : HostOp} {f : Frame} {pops rest : List Inputs}
    (h : Sending b op 8 u) (hread : op.isRead = true) (h8 : 8 ≤ b.timeout) (hi : u.now.Accepts)
    (hscript : u.script = u.now :: (pops ++ rest)) (hbytes : pops.map (·.rxData) = f.toBytes)
    (hpops : ∀ i ∈ pops, i.Offers) : ∃ w, ticks 10 u = .next w ∧ Receiving b op f.toBytes w ∧ w.script = rest := by
  obtain ⟨v, hstep, hv⟩ := h.exists_step_enterReader hread hi
  have hlen : pops.length = 9 := by simpa using congrArg List.length hbytes
  obtain ⟨w, hrun, hw, hrest⟩ :=
    exists_ticks_of_script (P := fun past => Receiving b op (past.map (·.rxData))) (step_script hstep hscript) hv
      fun past x hx hlt hmem => by
        simpa using hx.exists_step_byte h8 (by simpa [hlen] using hlt) (hpops _ hmem)
  rw [hlen] at hrun
  rw [hbytes] at hw
  exact ⟨w, (ticks_succ hstep).trans hrun, hw, hrest⟩

/-- Settles O56: nine bytes after the start the command is complete and the operation with it; until then it has no
results. -/
theorem sendOnlyOperation : Obligations.SendOnlyOperation := by
  intro s op a sends rest hi hst hread hscript hr hs hop hlen hsends
  obtain ⟨u, hrun, hu, hlast, hrest⟩ := exists_ticks_lastByte hi hst hscript ⟨hr, hs, hop⟩ hlen hsends
  have hstep := hu.step_lastByte hlast
  rw [lastByteSent_of_sendOnly (s := u.txPush _) (hu.opr ▸ hread)] at hstep
  have ⟨_, hphase⟩ := hu.inv
  obtain ⟨-, -, hppm, hppmValid, htemp, htempValid, -, hck⟩ := hphase.running (by simp [hu.st])
  exact ⟨_, ticks_add_one hrun hstep, rfl, rfl, rfl, hu.opr,
    ⟨hppm, hppmValid, htemp, htempValid, hphase.cnt_of_send hu.st, hck⟩, step_script hstep hrest, hu.txStream_lastByte,
    hu.rxTaken⟩

/-- Whatever `DECODE` returns, the `CHECK` tick ends the operation with the number of bytes counted and the streams as they
are (R81). -/
theorem finishReading_ends (r : Reading) (s : State) :
    (finishReading r s).st = .idle ∧ (finishReading r s).done = true ∧ (finishReading r s).opr = s.opr ∧
      (finishReading r s).nrecv = s.cnt ∧ (finishReading r s).txStream = s.txStream ∧
      (finishReading r s).rxTaken = s.rxTaken := by
  cases r <;> simp [finishReading]

/-- Settles O57: after the ninth byte the buffer holds the frame, and the `CHECK` tick writes what `DECODE` says of it into
registers that are still clear. -/
theorem readOperation : Obligations.ReadOperation := by
  intro s op f a z sends pops rest hi hst hread h8 hscript hr hs hop hlen hsends hbytes hpops hz
  obtain ⟨v, hsend, hv, hlast, hv'⟩ := exists_ticks_lastByte hi hst hscript ⟨hr, hs, hop⟩ hlen hsends
  obtain ⟨u, hreader, hu, hrest⟩ := hv.exists_ticks_check hread h8 hlast hv' hbytes hpops
  have hrun : ticks 19 s = .next u := (ticks_add hsend).trans hreader
  obtain rfl := State.now_of_script hrest
  have hcheck : u.st = .check := hu.st
  have hbuf : u.buf = f := Frame.toBytes_injective hu.buf
  have ⟨_, hphase⟩ := hu.inv
  obtain ⟨-, -, hppm, hppmValid, htemp, htempValid, -, hckRecv, hckCalc⟩ := hphase.running (by simp [hcheck])
  have hstep := step_phase hz
  rw [phaseTick_check hcheck, endOfTick_next, hbuf, hu.params] at hstep
  obtain ⟨hidle, hdone, hopr, hnrecv, htx, hrx⟩ := finishReading_ends (f.reading s.params.cksumWrap) u
  refine ⟨_, ticks_add_one hrun hstep, hidle, hdone, hopr.trans hu.opr, hnrecv.trans (hphase.cnt_of_check hcheck),
    step_script hstep hrest, htx.trans hu.txStream, hrx.trans hu.rxTaken, ?_⟩
  cases f.reading s.params.cksumWrap with
  | ok p q => simp [finishReading, hu.opr, htemp, htempValid, hckRecv, hckCalc]
  | badMarker => exact ⟨rfl, hppm, hppmValid, htemp, htempValid, hckRecv, hckCalc⟩
  | badChecksum r k => exact ⟨rfl, hppm, hppmValid, htemp, htempValid, rfl, rfl⟩

end Sys2Proof.Machine
